-- ==== Sys2Proof/Word.lean ====
section
/-! DEFINITION. The two data widths of the machine (spec/00_scope.md R8). -/

namespace Sys2Proof

/-- An 8-bit datum: A, B, DP, CC and every byte of the bus (00 R8). -/
abbrev Byte := BitVec 8

/-- A 16-bit datum: D, X, Y, U, S, PC and every logical address (00 R8). -/
abbrev Word := BitVec 16

end Sys2Proof
end

