-- ==== Sys2Proof/Syntax.lean ====
section
/-! DEFINITION. The instructions: one constructor per row of spec/opcode_table.json (268 rows: mnemonic and addressing
mode), and the operand forms that several rows share (spec/30_encoding.md R130, R158 to R168). -/

namespace Sys2Proof

/-- The base register of an indexed operand, `pb[6:5]` (30 R159). -/
inductive IdxReg where
  | x
  | y
  | u
  | s
deriving DecidableEq, Repr

/-- The indexed sub-modes (30 R161 to R168). The undefined ones (30 R170) have no term: the decoder refuses them. -/
inductive IdxMode where
  /-- `n5,R` (30 R161). -/
  | off5 (r : IdxReg) (n : BitVec 5)
  /-- `,R+` (30 R162). -/
  | postInc1 (r : IdxReg)
  /-- `,R++` (30 R162). -/
  | postInc2 (r : IdxReg)
  /-- `,-R` (30 R163). -/
  | preDec1 (r : IdxReg)
  /-- `,--R` (30 R163). -/
  | preDec2 (r : IdxReg)
  /-- `,R` (30 R164). -/
  | zero (r : IdxReg)
  /-- `B,R` (30 R165). -/
  | accB (r : IdxReg)
  /-- `A,R` (30 R165). -/
  | accA (r : IdxReg)
  /-- `D,R` (30 R165). -/
  | accD (r : IdxReg)
  /-- `n8,R` (30 R166). -/
  | off8 (r : IdxReg) (n : Byte)
  /-- `n16,R` (30 R166). -/
  | off16 (r : IdxReg) (n : Word)
  /-- `n8,PCR` (30 R167). -/
  | pcr8 (n : Byte)
  /-- `n16,PCR` (30 R167). -/
  | pcr16 (n : Word)
  /-- `[n16]` (30 R168). -/
  | ext (n : Word)
deriving DecidableEq, Repr

/-- An indexed operand: a sub-mode and the indirect flag `pb[4]` (30 R158, R169). Which pairs are encodings is
`Indexed.wf` (WellFormed.lean). -/
structure Indexed where
  mode : IdxMode
  indirect : Bool
deriving DecidableEq, Repr

/-- A memory operand: the modes that resolve an effective address (30 R155, R156, R158). -/
inductive MemOp where
  /-- Direct: `dd`. -/
  | dir (d : Byte)
  /-- Indexed: postbyte and offset bytes. -/
  | idx (ix : Indexed)
  /-- Extended: `hh ll`. -/
  | ext (w : Word)
deriving DecidableEq, Repr

/-- The operand of `Operand8()` (30 R160). -/
inductive Src8 where
  | imm (v : Byte)
  | mem (m : MemOp)
deriving DecidableEq, Repr

/-- The operand of `Operand16()` (30 R160). -/
inductive Src16 where
  | imm (v : Word)
  | mem (m : MemOp)
deriving DecidableEq, Repr

/-- The instructions, one constructor per opcode row (30 R138 to R140). The suffix names the row's mode where a
mnemonic has several rows: Imm, Dir, Idx, Ext. The rows without an operand stand last (Lean's runtime numbers at most 244
constructors that have fields). -/
inductive Instr where
  | negDir (d : Byte) -- 00 NEG Direct
  | comDir (d : Byte) -- 03 COM Direct
  | lsrDir (d : Byte) -- 04 LSR Direct
  | rorDir (d : Byte) -- 06 ROR Direct
  | asrDir (d : Byte) -- 07 ASR Direct
  | aslDir (d : Byte) -- 08 ASL Direct
  | rolDir (d : Byte) -- 09 ROL Direct
  | decDir (d : Byte) -- 0A DEC Direct
  | incDir (d : Byte) -- 0C INC Direct
  | tstDir (d : Byte) -- 0D TST Direct
  | jmpDir (d : Byte) -- 0E JMP Direct
  | clrDir (d : Byte) -- 0F CLR Direct
  | lbra (r : Word) -- 16 LBRA RelativeWord
  | lbsr (r : Word) -- 17 LBSR RelativeWord
  | orcc (v : Byte) -- 1A ORCC ImmediateByte
  | andcc (v : Byte) -- 1C ANDCC ImmediateByte
  | exg (r1 : BitVec 4) (r2 : BitVec 4) -- 1E EXG ImmediateRegs
  | tfr (src : BitVec 4) (dst : BitVec 4) -- 1F TFR ImmediateRegs
  | bra (r : Byte) -- 20 BRA RelativeByte
  | brn (r : Byte) -- 21 BRN RelativeByte
  | bhi (r : Byte) -- 22 BHI RelativeByte
  | bls (r : Byte) -- 23 BLS RelativeByte
  | bcc (r : Byte) -- 24 BCC RelativeByte
  | bcs (r : Byte) -- 25 BCS RelativeByte
  | bne (r : Byte) -- 26 BNE RelativeByte
  | beq (r : Byte) -- 27 BEQ RelativeByte
  | bvc (r : Byte) -- 28 BVC RelativeByte
  | bvs (r : Byte) -- 29 BVS RelativeByte
  | bpl (r : Byte) -- 2A BPL RelativeByte
  | bmi (r : Byte) -- 2B BMI RelativeByte
  | bge (r : Byte) -- 2C BGE RelativeByte
  | blt (r : Byte) -- 2D BLT RelativeByte
  | bgt (r : Byte) -- 2E BGT RelativeByte
  | ble (r : Byte) -- 2F BLE RelativeByte
  | leax (ix : Indexed) -- 30 LEAX Indexed
  | leay (ix : Indexed) -- 31 LEAY Indexed
  | leas (ix : Indexed) -- 32 LEAS Indexed
  | leau (ix : Indexed) -- 33 LEAU Indexed
  | pshs (mask : Byte) -- 34 PSHS ImmediateStackMask
  | puls (mask : Byte) -- 35 PULS ImmediateStackMask
  | pshu (mask : Byte) -- 36 PSHU ImmediateStackMask
  | pulu (mask : Byte) -- 37 PULU ImmediateStackMask
  | cwai (v : Byte) -- 3C CWAI ImmediateByte
  | negIdx (ix : Indexed) -- 60 NEG Indexed
  | comIdx (ix : Indexed) -- 63 COM Indexed
  | lsrIdx (ix : Indexed) -- 64 LSR Indexed
  | rorIdx (ix : Indexed) -- 66 ROR Indexed
  | asrIdx (ix : Indexed) -- 67 ASR Indexed
  | aslIdx (ix : Indexed) -- 68 ASL Indexed
  | rolIdx (ix : Indexed) -- 69 ROL Indexed
  | decIdx (ix : Indexed) -- 6A DEC Indexed
  | incIdx (ix : Indexed) -- 6C INC Indexed
  | tstIdx (ix : Indexed) -- 6D TST Indexed
  | jmpIdx (ix : Indexed) -- 6E JMP Indexed
  | clrIdx (ix : Indexed) -- 6F CLR Indexed
  | negExt (w : Word) -- 70 NEG Extended
  | comExt (w : Word) -- 73 COM Extended
  | lsrExt (w : Word) -- 74 LSR Extended
  | rorExt (w : Word) -- 76 ROR Extended
  | asrExt (w : Word) -- 77 ASR Extended
  | aslExt (w : Word) -- 78 ASL Extended
  | rolExt (w : Word) -- 79 ROL Extended
  | decExt (w : Word) -- 7A DEC Extended
  | incExt (w : Word) -- 7C INC Extended
  | tstExt (w : Word) -- 7D TST Extended
  | jmpExt (w : Word) -- 7E JMP Extended
  | clrExt (w : Word) -- 7F CLR Extended
  | subaImm (v : Byte) -- 80 SUBA ImmediateByte
  | cmpaImm (v : Byte) -- 81 CMPA ImmediateByte
  | sbcaImm (v : Byte) -- 82 SBCA ImmediateByte
  | subdImm (v : Word) -- 83 SUBD ImmediateWord
  | andaImm (v : Byte) -- 84 ANDA ImmediateByte
  | bitaImm (v : Byte) -- 85 BITA ImmediateByte
  | ldaImm (v : Byte) -- 86 LDA ImmediateByte
  | eoraImm (v : Byte) -- 88 EORA ImmediateByte
  | adcaImm (v : Byte) -- 89 ADCA ImmediateByte
  | oraImm (v : Byte) -- 8A ORA ImmediateByte
  | addaImm (v : Byte) -- 8B ADDA ImmediateByte
  | cmpxImm (v : Word) -- 8C CMPX ImmediateWord
  | bsr (r : Byte) -- 8D BSR RelativeByte
  | ldxImm (v : Word) -- 8E LDX ImmediateWord
  | subaDir (d : Byte) -- 90 SUBA Direct
  | cmpaDir (d : Byte) -- 91 CMPA Direct
  | sbcaDir (d : Byte) -- 92 SBCA Direct
  | subdDir (d : Byte) -- 93 SUBD Direct
  | andaDir (d : Byte) -- 94 ANDA Direct
  | bitaDir (d : Byte) -- 95 BITA Direct
  | ldaDir (d : Byte) -- 96 LDA Direct
  | staDir (d : Byte) -- 97 STA Direct
  | eoraDir (d : Byte) -- 98 EORA Direct
  | adcaDir (d : Byte) -- 99 ADCA Direct
  | oraDir (d : Byte) -- 9A ORA Direct
  | addaDir (d : Byte) -- 9B ADDA Direct
  | cmpxDir (d : Byte) -- 9C CMPX Direct
  | jsrDir (d : Byte) -- 9D JSR Direct
  | ldxDir (d : Byte) -- 9E LDX Direct
  | stxDir (d : Byte) -- 9F STX Direct
  | subaIdx (ix : Indexed) -- A0 SUBA Indexed
  | cmpaIdx (ix : Indexed) -- A1 CMPA Indexed
  | sbcaIdx (ix : Indexed) -- A2 SBCA Indexed
  | subdIdx (ix : Indexed) -- A3 SUBD Indexed
  | andaIdx (ix : Indexed) -- A4 ANDA Indexed
  | bitaIdx (ix : Indexed) -- A5 BITA Indexed
  | ldaIdx (ix : Indexed) -- A6 LDA Indexed
  | staIdx (ix : Indexed) -- A7 STA Indexed
  | eoraIdx (ix : Indexed) -- A8 EORA Indexed
  | adcaIdx (ix : Indexed) -- A9 ADCA Indexed
  | oraIdx (ix : Indexed) -- AA ORA Indexed
  | addaIdx (ix : Indexed) -- AB ADDA Indexed
  | cmpxIdx (ix : Indexed) -- AC CMPX Indexed
  | jsrIdx (ix : Indexed) -- AD JSR Indexed
  | ldxIdx (ix : Indexed) -- AE LDX Indexed
  | stxIdx (ix : Indexed) -- AF STX Indexed
  | subaExt (w : Word) -- B0 SUBA Extended
  | cmpaExt (w : Word) -- B1 CMPA Extended
  | sbcaExt (w : Word) -- B2 SBCA Extended
  | subdExt (w : Word) -- B3 SUBD Extended
  | andaExt (w : Word) -- B4 ANDA Extended
  | bitaExt (w : Word) -- B5 BITA Extended
  | ldaExt (w : Word) -- B6 LDA Extended
  | staExt (w : Word) -- B7 STA Extended
  | eoraExt (w : Word) -- B8 EORA Extended
  | adcaExt (w : Word) -- B9 ADCA Extended
  | oraExt (w : Word) -- BA ORA Extended
  | addaExt (w : Word) -- BB ADDA Extended
  | cmpxExt (w : Word) -- BC CMPX Extended
  | jsrExt (w : Word) -- BD JSR Extended
  | ldxExt (w : Word) -- BE LDX Extended
  | stxExt (w : Word) -- BF STX Extended
  | subbImm (v : Byte) -- C0 SUBB ImmediateByte
  | cmpbImm (v : Byte) -- C1 CMPB ImmediateByte
  | sbcbImm (v : Byte) -- C2 SBCB ImmediateByte
  | adddImm (v : Word) -- C3 ADDD ImmediateWord
  | andbImm (v : Byte) -- C4 ANDB ImmediateByte
  | bitbImm (v : Byte) -- C5 BITB ImmediateByte
  | ldbImm (v : Byte) -- C6 LDB ImmediateByte
  | eorbImm (v : Byte) -- C8 EORB ImmediateByte
  | adcbImm (v : Byte) -- C9 ADCB ImmediateByte
  | orbImm (v : Byte) -- CA ORB ImmediateByte
  | addbImm (v : Byte) -- CB ADDB ImmediateByte
  | lddImm (v : Word) -- CC LDD ImmediateWord
  | lduImm (v : Word) -- CE LDU ImmediateWord
  | subbDir (d : Byte) -- D0 SUBB Direct
  | cmpbDir (d : Byte) -- D1 CMPB Direct
  | sbcbDir (d : Byte) -- D2 SBCB Direct
  | adddDir (d : Byte) -- D3 ADDD Direct
  | andbDir (d : Byte) -- D4 ANDB Direct
  | bitbDir (d : Byte) -- D5 BITB Direct
  | ldbDir (d : Byte) -- D6 LDB Direct
  | stbDir (d : Byte) -- D7 STB Direct
  | eorbDir (d : Byte) -- D8 EORB Direct
  | adcbDir (d : Byte) -- D9 ADCB Direct
  | orbDir (d : Byte) -- DA ORB Direct
  | addbDir (d : Byte) -- DB ADDB Direct
  | lddDir (d : Byte) -- DC LDD Direct
  | stdDir (d : Byte) -- DD STD Direct
  | lduDir (d : Byte) -- DE LDU Direct
  | stuDir (d : Byte) -- DF STU Direct
  | subbIdx (ix : Indexed) -- E0 SUBB Indexed
  | cmpbIdx (ix : Indexed) -- E1 CMPB Indexed
  | sbcbIdx (ix : Indexed) -- E2 SBCB Indexed
  | adddIdx (ix : Indexed) -- E3 ADDD Indexed
  | andbIdx (ix : Indexed) -- E4 ANDB Indexed
  | bitbIdx (ix : Indexed) -- E5 BITB Indexed
  | ldbIdx (ix : Indexed) -- E6 LDB Indexed
  | stbIdx (ix : Indexed) -- E7 STB Indexed
  | eorbIdx (ix : Indexed) -- E8 EORB Indexed
  | adcbIdx (ix : Indexed) -- E9 ADCB Indexed
  | orbIdx (ix : Indexed) -- EA ORB Indexed
  | addbIdx (ix : Indexed) -- EB ADDB Indexed
  | lddIdx (ix : Indexed) -- EC LDD Indexed
  | stdIdx (ix : Indexed) -- ED STD Indexed
  | lduIdx (ix : Indexed) -- EE LDU Indexed
  | stuIdx (ix : Indexed) -- EF STU Indexed
  | subbExt (w : Word) -- F0 SUBB Extended
  | cmpbExt (w : Word) -- F1 CMPB Extended
  | sbcbExt (w : Word) -- F2 SBCB Extended
  | adddExt (w : Word) -- F3 ADDD Extended
  | andbExt (w : Word) -- F4 ANDB Extended
  | bitbExt (w : Word) -- F5 BITB Extended
  | ldbExt (w : Word) -- F6 LDB Extended
  | stbExt (w : Word) -- F7 STB Extended
  | eorbExt (w : Word) -- F8 EORB Extended
  | adcbExt (w : Word) -- F9 ADCB Extended
  | orbExt (w : Word) -- FA ORB Extended
  | addbExt (w : Word) -- FB ADDB Extended
  | lddExt (w : Word) -- FC LDD Extended
  | stdExt (w : Word) -- FD STD Extended
  | lduExt (w : Word) -- FE LDU Extended
  | stuExt (w : Word) -- FF STU Extended
  | lbrn (r : Word) -- 10 21 LBRN RelativeWord
  | lbhi (r : Word) -- 10 22 LBHI RelativeWord
  | lbls (r : Word) -- 10 23 LBLS RelativeWord
  | lbcc (r : Word) -- 10 24 LBCC RelativeWord
  | lbcs (r : Word) -- 10 25 LBCS RelativeWord
  | lbne (r : Word) -- 10 26 LBNE RelativeWord
  | lbeq (r : Word) -- 10 27 LBEQ RelativeWord
  | lbvc (r : Word) -- 10 28 LBVC RelativeWord
  | lbvs (r : Word) -- 10 29 LBVS RelativeWord
  | lbpl (r : Word) -- 10 2A LBPL RelativeWord
  | lbmi (r : Word) -- 10 2B LBMI RelativeWord
  | lbge (r : Word) -- 10 2C LBGE RelativeWord
  | lblt (r : Word) -- 10 2D LBLT RelativeWord
  | lbgt (r : Word) -- 10 2E LBGT RelativeWord
  | lble (r : Word) -- 10 2F LBLE RelativeWord
  | cmpdImm (v : Word) -- 10 83 CMPD ImmediateWord
  | cmpyImm (v : Word) -- 10 8C CMPY ImmediateWord
  | ldyImm (v : Word) -- 10 8E LDY ImmediateWord
  | cmpdDir (d : Byte) -- 10 93 CMPD Direct
  | cmpyDir (d : Byte) -- 10 9C CMPY Direct
  | ldyDir (d : Byte) -- 10 9E LDY Direct
  | styDir (d : Byte) -- 10 9F STY Direct
  | cmpdIdx (ix : Indexed) -- 10 A3 CMPD Indexed
  | cmpyIdx (ix : Indexed) -- 10 AC CMPY Indexed
  | ldyIdx (ix : Indexed) -- 10 AE LDY Indexed
  | styIdx (ix : Indexed) -- 10 AF STY Indexed
  | cmpdExt (w : Word) -- 10 B3 CMPD Extended
  | cmpyExt (w : Word) -- 10 BC CMPY Extended
  | ldyExt (w : Word) -- 10 BE LDY Extended
  | styExt (w : Word) -- 10 BF STY Extended
  | ldsImm (v : Word) -- 10 CE LDS ImmediateWord
  | ldsDir (d : Byte) -- 10 DE LDS Direct
  | stsDir (d : Byte) -- 10 DF STS Direct
  | ldsIdx (ix : Indexed) -- 10 EE LDS Indexed
  | stsIdx (ix : Indexed) -- 10 EF STS Indexed
  | ldsExt (w : Word) -- 10 FE LDS Extended
  | stsExt (w : Word) -- 10 FF STS Extended
  | cmpuImm (v : Word) -- 11 83 CMPU ImmediateWord
  | cmpsImm (v : Word) -- 11 8C CMPS ImmediateWord
  | cmpuDir (d : Byte) -- 11 93 CMPU Direct
  | cmpsDir (d : Byte) -- 11 9C CMPS Direct
  | cmpuIdx (ix : Indexed) -- 11 A3 CMPU Indexed
  | cmpsIdx (ix : Indexed) -- 11 AC CMPS Indexed
  | cmpuExt (w : Word) -- 11 B3 CMPU Extended
  | cmpsExt (w : Word) -- 11 BC CMPS Extended
  | nop -- 12 NOP Inherent
  | sync -- 13 SYNC Inherent
  | daa -- 19 DAA Inherent
  | sex -- 1D SEX Inherent
  | rts -- 39 RTS Inherent
  | abx -- 3A ABX Inherent
  | rti -- 3B RTI Inherent
  | mul -- 3D MUL Inherent
  | swi -- 3F SWI Inherent
  | nega -- 40 NEGA Inherent
  | coma -- 43 COMA Inherent
  | lsra -- 44 LSRA Inherent
  | rora -- 46 RORA Inherent
  | asra -- 47 ASRA Inherent
  | asla -- 48 ASLA Inherent
  | rola -- 49 ROLA Inherent
  | deca -- 4A DECA Inherent
  | inca -- 4C INCA Inherent
  | tsta -- 4D TSTA Inherent
  | clra -- 4F CLRA Inherent
  | negb -- 50 NEGB Inherent
  | comb -- 53 COMB Inherent
  | lsrb -- 54 LSRB Inherent
  | rorb -- 56 RORB Inherent
  | asrb -- 57 ASRB Inherent
  | aslb -- 58 ASLB Inherent
  | rolb -- 59 ROLB Inherent
  | decb -- 5A DECB Inherent
  | incb -- 5C INCB Inherent
  | tstb -- 5D TSTB Inherent
  | clrb -- 5F CLRB Inherent
  | swi2 -- 10 3F SWI2 Inherent
  | swi3 -- 11 3F SWI3 Inherent
deriving DecidableEq, Repr

/-! The rows of one mnemonic as one function of its operand form, so that a statement or a lemma can speak of every
form at once. -/

namespace Instr

/-- NEG in each of its operand forms. -/
def neg : MemOp → Instr
  | .dir d => .negDir d
  | .idx ix => .negIdx ix
  | .ext w => .negExt w

/-- COM in each of its operand forms. -/
def com : MemOp → Instr
  | .dir d => .comDir d
  | .idx ix => .comIdx ix
  | .ext w => .comExt w

/-- LSR in each of its operand forms. -/
def lsr : MemOp → Instr
  | .dir d => .lsrDir d
  | .idx ix => .lsrIdx ix
  | .ext w => .lsrExt w

/-- ROR in each of its operand forms. -/
def ror : MemOp → Instr
  | .dir d => .rorDir d
  | .idx ix => .rorIdx ix
  | .ext w => .rorExt w

/-- ASR in each of its operand forms. -/
def asr : MemOp → Instr
  | .dir d => .asrDir d
  | .idx ix => .asrIdx ix
  | .ext w => .asrExt w

/-- ASL in each of its operand forms. -/
def asl : MemOp → Instr
  | .dir d => .aslDir d
  | .idx ix => .aslIdx ix
  | .ext w => .aslExt w

/-- ROL in each of its operand forms. -/
def rol : MemOp → Instr
  | .dir d => .rolDir d
  | .idx ix => .rolIdx ix
  | .ext w => .rolExt w

/-- DEC in each of its operand forms. -/
def dec : MemOp → Instr
  | .dir d => .decDir d
  | .idx ix => .decIdx ix
  | .ext w => .decExt w

/-- INC in each of its operand forms. -/
def inc : MemOp → Instr
  | .dir d => .incDir d
  | .idx ix => .incIdx ix
  | .ext w => .incExt w

/-- TST in each of its operand forms. -/
def tst : MemOp → Instr
  | .dir d => .tstDir d
  | .idx ix => .tstIdx ix
  | .ext w => .tstExt w

/-- JMP in each of its operand forms. -/
def jmp : MemOp → Instr
  | .dir d => .jmpDir d
  | .idx ix => .jmpIdx ix
  | .ext w => .jmpExt w

/-- CLR in each of its operand forms. -/
def clr : MemOp → Instr
  | .dir d => .clrDir d
  | .idx ix => .clrIdx ix
  | .ext w => .clrExt w

/-- SUBA in each of its operand forms. -/
def suba : Src8 → Instr
  | .imm v => .subaImm v
  | .mem (.dir d) => .subaDir d
  | .mem (.idx ix) => .subaIdx ix
  | .mem (.ext w) => .subaExt w

/-- CMPA in each of its operand forms. -/
def cmpa : Src8 → Instr
  | .imm v => .cmpaImm v
  | .mem (.dir d) => .cmpaDir d
  | .mem (.idx ix) => .cmpaIdx ix
  | .mem (.ext w) => .cmpaExt w

/-- SBCA in each of its operand forms. -/
def sbca : Src8 → Instr
  | .imm v => .sbcaImm v
  | .mem (.dir d) => .sbcaDir d
  | .mem (.idx ix) => .sbcaIdx ix
  | .mem (.ext w) => .sbcaExt w

/-- SUBD in each of its operand forms. -/
def subd : Src16 → Instr
  | .imm v => .subdImm v
  | .mem (.dir d) => .subdDir d
  | .mem (.idx ix) => .subdIdx ix
  | .mem (.ext w) => .subdExt w

/-- ANDA in each of its operand forms. -/
def anda : Src8 → Instr
  | .imm v => .andaImm v
  | .mem (.dir d) => .andaDir d
  | .mem (.idx ix) => .andaIdx ix
  | .mem (.ext w) => .andaExt w

/-- BITA in each of its operand forms. -/
def bita : Src8 → Instr
  | .imm v => .bitaImm v
  | .mem (.dir d) => .bitaDir d
  | .mem (.idx ix) => .bitaIdx ix
  | .mem (.ext w) => .bitaExt w

/-- LDA in each of its operand forms. -/
def lda : Src8 → Instr
  | .imm v => .ldaImm v
  | .mem (.dir d) => .ldaDir d
  | .mem (.idx ix) => .ldaIdx ix
  | .mem (.ext w) => .ldaExt w

/-- EORA in each of its operand forms. -/
def eora : Src8 → Instr
  | .imm v => .eoraImm v
  | .mem (.dir d) => .eoraDir d
  | .mem (.idx ix) => .eoraIdx ix
  | .mem (.ext w) => .eoraExt w

/-- ADCA in each of its operand forms. -/
def adca : Src8 → Instr
  | .imm v => .adcaImm v
  | .mem (.dir d) => .adcaDir d
  | .mem (.idx ix) => .adcaIdx ix
  | .mem (.ext w) => .adcaExt w

/-- ORA in each of its operand forms. -/
def ora : Src8 → Instr
  | .imm v => .oraImm v
  | .mem (.dir d) => .oraDir d
  | .mem (.idx ix) => .oraIdx ix
  | .mem (.ext w) => .oraExt w

/-- ADDA in each of its operand forms. -/
def adda : Src8 → Instr
  | .imm v => .addaImm v
  | .mem (.dir d) => .addaDir d
  | .mem (.idx ix) => .addaIdx ix
  | .mem (.ext w) => .addaExt w

/-- CMPX in each of its operand forms. -/
def cmpx : Src16 → Instr
  | .imm v => .cmpxImm v
  | .mem (.dir d) => .cmpxDir d
  | .mem (.idx ix) => .cmpxIdx ix
  | .mem (.ext w) => .cmpxExt w

/-- LDX in each of its operand forms. -/
def ldx : Src16 → Instr
  | .imm v => .ldxImm v
  | .mem (.dir d) => .ldxDir d
  | .mem (.idx ix) => .ldxIdx ix
  | .mem (.ext w) => .ldxExt w

/-- STA in each of its operand forms. -/
def sta : MemOp → Instr
  | .dir d => .staDir d
  | .idx ix => .staIdx ix
  | .ext w => .staExt w

/-- JSR in each of its operand forms. -/
def jsr : MemOp → Instr
  | .dir d => .jsrDir d
  | .idx ix => .jsrIdx ix
  | .ext w => .jsrExt w

/-- STX in each of its operand forms. -/
def stx : MemOp → Instr
  | .dir d => .stxDir d
  | .idx ix => .stxIdx ix
  | .ext w => .stxExt w

/-- SUBB in each of its operand forms. -/
def subb : Src8 → Instr
  | .imm v => .subbImm v
  | .mem (.dir d) => .subbDir d
  | .mem (.idx ix) => .subbIdx ix
  | .mem (.ext w) => .subbExt w

/-- CMPB in each of its operand forms. -/
def cmpb : Src8 → Instr
  | .imm v => .cmpbImm v
  | .mem (.dir d) => .cmpbDir d
  | .mem (.idx ix) => .cmpbIdx ix
  | .mem (.ext w) => .cmpbExt w

/-- SBCB in each of its operand forms. -/
def sbcb : Src8 → Instr
  | .imm v => .sbcbImm v
  | .mem (.dir d) => .sbcbDir d
  | .mem (.idx ix) => .sbcbIdx ix
  | .mem (.ext w) => .sbcbExt w

/-- ADDD in each of its operand forms. -/
def addd : Src16 → Instr
  | .imm v => .adddImm v
  | .mem (.dir d) => .adddDir d
  | .mem (.idx ix) => .adddIdx ix
  | .mem (.ext w) => .adddExt w

/-- ANDB in each of its operand forms. -/
def andb : Src8 → Instr
  | .imm v => .andbImm v
  | .mem (.dir d) => .andbDir d
  | .mem (.idx ix) => .andbIdx ix
  | .mem (.ext w) => .andbExt w

/-- BITB in each of its operand forms. -/
def bitb : Src8 → Instr
  | .imm v => .bitbImm v
  | .mem (.dir d) => .bitbDir d
  | .mem (.idx ix) => .bitbIdx ix
  | .mem (.ext w) => .bitbExt w

/-- LDB in each of its operand forms. -/
def ldb : Src8 → Instr
  | .imm v => .ldbImm v
  | .mem (.dir d) => .ldbDir d
  | .mem (.idx ix) => .ldbIdx ix
  | .mem (.ext w) => .ldbExt w

/-- EORB in each of its operand forms. -/
def eorb : Src8 → Instr
  | .imm v => .eorbImm v
  | .mem (.dir d) => .eorbDir d
  | .mem (.idx ix) => .eorbIdx ix
  | .mem (.ext w) => .eorbExt w

/-- ADCB in each of its operand forms. -/
def adcb : Src8 → Instr
  | .imm v => .adcbImm v
  | .mem (.dir d) => .adcbDir d
  | .mem (.idx ix) => .adcbIdx ix
  | .mem (.ext w) => .adcbExt w

/-- ORB in each of its operand forms. -/
def orb : Src8 → Instr
  | .imm v => .orbImm v
  | .mem (.dir d) => .orbDir d
  | .mem (.idx ix) => .orbIdx ix
  | .mem (.ext w) => .orbExt w

/-- ADDB in each of its operand forms. -/
def addb : Src8 → Instr
  | .imm v => .addbImm v
  | .mem (.dir d) => .addbDir d
  | .mem (.idx ix) => .addbIdx ix
  | .mem (.ext w) => .addbExt w

/-- LDD in each of its operand forms. -/
def ldd : Src16 → Instr
  | .imm v => .lddImm v
  | .mem (.dir d) => .lddDir d
  | .mem (.idx ix) => .lddIdx ix
  | .mem (.ext w) => .lddExt w

/-- LDU in each of its operand forms. -/
def ldu : Src16 → Instr
  | .imm v => .lduImm v
  | .mem (.dir d) => .lduDir d
  | .mem (.idx ix) => .lduIdx ix
  | .mem (.ext w) => .lduExt w

/-- STB in each of its operand forms. -/
def stb : MemOp → Instr
  | .dir d => .stbDir d
  | .idx ix => .stbIdx ix
  | .ext w => .stbExt w

/-- STD in each of its operand forms. -/
def std : MemOp → Instr
  | .dir d => .stdDir d
  | .idx ix => .stdIdx ix
  | .ext w => .stdExt w

/-- STU in each of its operand forms. -/
def stu : MemOp → Instr
  | .dir d => .stuDir d
  | .idx ix => .stuIdx ix
  | .ext w => .stuExt w

/-- CMPD in each of its operand forms. -/
def cmpd : Src16 → Instr
  | .imm v => .cmpdImm v
  | .mem (.dir d) => .cmpdDir d
  | .mem (.idx ix) => .cmpdIdx ix
  | .mem (.ext w) => .cmpdExt w

/-- CMPY in each of its operand forms. -/
def cmpy : Src16 → Instr
  | .imm v => .cmpyImm v
  | .mem (.dir d) => .cmpyDir d
  | .mem (.idx ix) => .cmpyIdx ix
  | .mem (.ext w) => .cmpyExt w

/-- LDY in each of its operand forms. -/
def ldy : Src16 → Instr
  | .imm v => .ldyImm v
  | .mem (.dir d) => .ldyDir d
  | .mem (.idx ix) => .ldyIdx ix
  | .mem (.ext w) => .ldyExt w

/-- STY in each of its operand forms. -/
def sty : MemOp → Instr
  | .dir d => .styDir d
  | .idx ix => .styIdx ix
  | .ext w => .styExt w

/-- LDS in each of its operand forms. -/
def lds : Src16 → Instr
  | .imm v => .ldsImm v
  | .mem (.dir d) => .ldsDir d
  | .mem (.idx ix) => .ldsIdx ix
  | .mem (.ext w) => .ldsExt w

/-- STS in each of its operand forms. -/
def sts : MemOp → Instr
  | .dir d => .stsDir d
  | .idx ix => .stsIdx ix
  | .ext w => .stsExt w

/-- CMPU in each of its operand forms. -/
def cmpu : Src16 → Instr
  | .imm v => .cmpuImm v
  | .mem (.dir d) => .cmpuDir d
  | .mem (.idx ix) => .cmpuIdx ix
  | .mem (.ext w) => .cmpuExt w

/-- CMPS in each of its operand forms. -/
def cmps : Src16 → Instr
  | .imm v => .cmpsImm v
  | .mem (.dir d) => .cmpsDir d
  | .mem (.idx ix) => .cmpsIdx ix
  | .mem (.ext w) => .cmpsExt w

end Instr

end Sys2Proof
end

