-- ==== Sys2Proof/Machine/Cycles.lean ====
section
/-! DEFINITION. `CYCLES`: the base cycle count of every row (spec/30_encoding.md R138 to R140, the base_cycles of
spec/opcode_table.json; D9). -/

namespace Sys2Proof.Machine

/-- The base cycle count of an instruction's row (60 R603). -/
def baseCycles : Instr → Nat
  | .negDir _ => 6
  | .comDir _ => 6
  | .lsrDir _ => 6
  | .rorDir _ => 6
  | .asrDir _ => 6
  | .aslDir _ => 6
  | .rolDir _ => 6
  | .decDir _ => 6
  | .incDir _ => 6
  | .tstDir _ => 6
  | .jmpDir _ => 3
  | .clrDir _ => 6
  | .lbra _ => 5
  | .lbsr _ => 9
  | .orcc _ => 3
  | .andcc _ => 3
  | .exg _ _ => 8
  | .tfr _ _ => 6
  | .bra _ => 3
  | .brn _ => 3
  | .bhi _ => 3
  | .bls _ => 3
  | .bcc _ => 3
  | .bcs _ => 3
  | .bne _ => 3
  | .beq _ => 3
  | .bvc _ => 3
  | .bvs _ => 3
  | .bpl _ => 3
  | .bmi _ => 3
  | .bge _ => 3
  | .blt _ => 3
  | .bgt _ => 3
  | .ble _ => 3
  | .leax _ => 4
  | .leay _ => 4
  | .leas _ => 4
  | .leau _ => 4
  | .pshs _ => 5
  | .puls _ => 5
  | .pshu _ => 5
  | .pulu _ => 5
  | .cwai _ => 20
  | .negIdx _ => 6
  | .comIdx _ => 6
  | .lsrIdx _ => 6
  | .rorIdx _ => 6
  | .asrIdx _ => 6
  | .aslIdx _ => 6
  | .rolIdx _ => 6
  | .decIdx _ => 6
  | .incIdx _ => 6
  | .tstIdx _ => 6
  | .jmpIdx _ => 3
  | .clrIdx _ => 6
  | .negExt _ => 7
  | .comExt _ => 7
  | .lsrExt _ => 7
  | .rorExt _ => 7
  | .asrExt _ => 7
  | .aslExt _ => 7
  | .rolExt _ => 7
  | .decExt _ => 7
  | .incExt _ => 7
  | .tstExt _ => 7
  | .jmpExt _ => 4
  | .clrExt _ => 7
  | .subaImm _ => 2
  | .cmpaImm _ => 2
  | .sbcaImm _ => 2
  | .subdImm _ => 4
  | .andaImm _ => 2
  | .bitaImm _ => 2
  | .ldaImm _ => 2
  | .eoraImm _ => 2
  | .adcaImm _ => 2
  | .oraImm _ => 2
  | .addaImm _ => 2
  | .cmpxImm _ => 4
  | .bsr _ => 7
  | .ldxImm _ => 3
  | .subaDir _ => 4
  | .cmpaDir _ => 4
  | .sbcaDir _ => 4
  | .subdDir _ => 6
  | .andaDir _ => 4
  | .bitaDir _ => 4
  | .ldaDir _ => 4
  | .staDir _ => 4
  | .eoraDir _ => 4
  | .adcaDir _ => 4
  | .oraDir _ => 4
  | .addaDir _ => 4
  | .cmpxDir _ => 6
  | .jsrDir _ => 7
  | .ldxDir _ => 5
  | .stxDir _ => 5
  | .subaIdx _ => 4
  | .cmpaIdx _ => 4
  | .sbcaIdx _ => 4
  | .subdIdx _ => 6
  | .andaIdx _ => 4
  | .bitaIdx _ => 4
  | .ldaIdx _ => 4
  | .staIdx _ => 4
  | .eoraIdx _ => 4
  | .adcaIdx _ => 4
  | .oraIdx _ => 4
  | .addaIdx _ => 4
  | .cmpxIdx _ => 6
  | .jsrIdx _ => 7
  | .ldxIdx _ => 5
  | .stxIdx _ => 5
  | .subaExt _ => 5
  | .cmpaExt _ => 5
  | .sbcaExt _ => 5
  | .subdExt _ => 7
  | .andaExt _ => 5
  | .bitaExt _ => 5
  | .ldaExt _ => 5
  | .staExt _ => 5
  | .eoraExt _ => 5
  | .adcaExt _ => 5
  | .oraExt _ => 5
  | .addaExt _ => 5
  | .cmpxExt _ => 7
  | .jsrExt _ => 8
  | .ldxExt _ => 6
  | .stxExt _ => 6
  | .subbImm _ => 2
  | .cmpbImm _ => 2
  | .sbcbImm _ => 2
  | .adddImm _ => 4
  | .andbImm _ => 2
  | .bitbImm _ => 2
  | .ldbImm _ => 2
  | .eorbImm _ => 2
  | .adcbImm _ => 2
  | .orbImm _ => 2
  | .addbImm _ => 2
  | .lddImm _ => 3
  | .lduImm _ => 3
  | .subbDir _ => 4
  | .cmpbDir _ => 4
  | .sbcbDir _ => 4
  | .adddDir _ => 6
  | .andbDir _ => 4
  | .bitbDir _ => 4
  | .ldbDir _ => 4
  | .stbDir _ => 4
  | .eorbDir _ => 4
  | .adcbDir _ => 4
  | .orbDir _ => 4
  | .addbDir _ => 4
  | .lddDir _ => 5
  | .stdDir _ => 5
  | .lduDir _ => 5
  | .stuDir _ => 5
  | .subbIdx _ => 4
  | .cmpbIdx _ => 4
  | .sbcbIdx _ => 4
  | .adddIdx _ => 6
  | .andbIdx _ => 4
  | .bitbIdx _ => 4
  | .ldbIdx _ => 4
  | .stbIdx _ => 4
  | .eorbIdx _ => 4
  | .adcbIdx _ => 4
  | .orbIdx _ => 4
  | .addbIdx _ => 4
  | .lddIdx _ => 5
  | .stdIdx _ => 5
  | .lduIdx _ => 5
  | .stuIdx _ => 5
  | .subbExt _ => 5
  | .cmpbExt _ => 5
  | .sbcbExt _ => 5
  | .adddExt _ => 7
  | .andbExt _ => 5
  | .bitbExt _ => 5
  | .ldbExt _ => 5
  | .stbExt _ => 5
  | .eorbExt _ => 5
  | .adcbExt _ => 5
  | .orbExt _ => 5
  | .addbExt _ => 5
  | .lddExt _ => 6
  | .stdExt _ => 6
  | .lduExt _ => 6
  | .stuExt _ => 6
  | .lbrn _ => 5
  | .lbhi _ => 5
  | .lbls _ => 5
  | .lbcc _ => 5
  | .lbcs _ => 5
  | .lbne _ => 5
  | .lbeq _ => 5
  | .lbvc _ => 5
  | .lbvs _ => 5
  | .lbpl _ => 5
  | .lbmi _ => 5
  | .lbge _ => 5
  | .lblt _ => 5
  | .lbgt _ => 5
  | .lble _ => 5
  | .cmpdImm _ => 5
  | .cmpyImm _ => 5
  | .ldyImm _ => 4
  | .cmpdDir _ => 7
  | .cmpyDir _ => 7
  | .ldyDir _ => 6
  | .styDir _ => 6
  | .cmpdIdx _ => 7
  | .cmpyIdx _ => 7
  | .ldyIdx _ => 6
  | .styIdx _ => 6
  | .cmpdExt _ => 8
  | .cmpyExt _ => 8
  | .ldyExt _ => 7
  | .styExt _ => 7
  | .ldsImm _ => 4
  | .ldsDir _ => 6
  | .stsDir _ => 6
  | .ldsIdx _ => 6
  | .stsIdx _ => 6
  | .ldsExt _ => 7
  | .stsExt _ => 7
  | .cmpuImm _ => 5
  | .cmpsImm _ => 5
  | .cmpuDir _ => 7
  | .cmpsDir _ => 7
  | .cmpuIdx _ => 7
  | .cmpsIdx _ => 7
  | .cmpuExt _ => 8
  | .cmpsExt _ => 8
  | .nop => 2
  | .sync => 4
  | .daa => 2
  | .sex => 2
  | .rts => 5
  | .abx => 3
  | .rti => 6
  | .mul => 11
  | .swi => 19
  | .nega => 2
  | .coma => 2
  | .lsra => 2
  | .rora => 2
  | .asra => 2
  | .asla => 2
  | .rola => 2
  | .deca => 2
  | .inca => 2
  | .tsta => 2
  | .clra => 2
  | .negb => 2
  | .comb => 2
  | .lsrb => 2
  | .rorb => 2
  | .asrb => 2
  | .aslb => 2
  | .rolb => 2
  | .decb => 2
  | .incb => 2
  | .tstb => 2
  | .clrb => 2
  | .swi2 => 20
  | .swi3 => 20

end Sys2Proof.Machine
end

