-- ==== Sys2Proof/Machine/Bits.lean ====
section
/-! DEFINITION. Bit-field, byte-order and extension helpers (spec/00_scope.md R9). -/

namespace Sys2Proof.Machine

/-- `sext_5(v)`: a 5-bit two's-complement number as 16 bits (00 R9). -/
def sext5 (v : BitVec 5) : Word := v.signExtend 16

/-- `sext_8(v)`: an 8-bit two's-complement number as 16 bits (00 R9). -/
def sext8 (v : Byte) : Word := v.signExtend 16

/-- `zext_8(v)`: 8 bits extended with zeros to 16 bits (00 R9). -/
def zext8 (v : Byte) : Word := v.setWidth 16

/-- `v[15:8]` (00 R9). -/
def hiByte (v : Word) : Byte := v.extractLsb' 8 8

/-- `v[7:0]` (00 R9). -/
def loByte (v : Word) : Byte := v.extractLsb' 0 8

/-- `hi : lo`, big-endian (00 R9, 20 R85). -/
def joinBytes (hi lo : Byte) : Word := hi ++ lo

/-- `v` with bit `k` set to `b`. -/
def putBit {n : Nat} (v : BitVec n) (k : Nat) (b : Bool) : BitVec n :=
  if b then v ||| BitVec.twoPow n k else v &&& ~~~(BitVec.twoPow n k)

end Sys2Proof.Machine
end

