-- ==== Sys2Proof/Config.lean ====
section
/-! DEFINITION. The parameters of the machine that spec/00_scope.md R7 lets a model take (`Params`, a field of State, with
the defaults in Machine/Params.lean), and its free values: constants without a body, so that no proof can see what they
are. -/

namespace Sys2Proof

/-- What a write does at a ROM-routed address, `ROM_WRITE_POLICY` (00 R7, 20 R87). -/
inductive RomWritePolicy where
  | toRam
  | discard
deriving DecidableEq, Repr

/-- V after SEX, `SEX_V` (00 R7, 40 R215). -/
inductive SexV where
  | unchanged
  | cleared
deriving DecidableEq, Repr

/-- What an undefined indexed postbyte does, `ILLEGAL_INDEXED` (00 R7, 30 R170): the model's fault, or the refusal of the
program, which spec/93_implementation_defined.md U2 admits beside it. -/
inductive IllegalIndexed where
  | fault
  | refuse
deriving DecidableEq, Repr

/-- An I/O range forwarded to a peripheral (00 R7, 20 R98), and whether that peripheral is present (20 R97). -/
structure PeripheralWindow where
  first : Nat
  last : Nat
  present : Bool
deriving DecidableEq, Repr

/-- The parameters of 00 R7 that an installation may choose: those marked "decision Dn". What the source itself fixes
("doc") stands in Machine/Params.lean, what is OPEN below. -/
structure Params where
  /-- `RAM_SIZE` as the exponent of its power of two (D48). -/
  ramBits : Nat
  /-- `FIXED_BASE`, the physical base of the untranslated map (D45). -/
  fixedBase : Nat
  /-- `ROM_BANKS` (D42). -/
  romBanks : List (BitVec 6)
  /-- `ROM_WRITE_POLICY` (D44). -/
  romWritePolicy : RomWritePolicy
  /-- `CONST_VECTORS_OVERRIDE_ROM` (D46). -/
  constVectorsOverrideRom : Bool
  /-- `CYCLES`, where it differs from the base cycles of spec/opcode_table.json: an opcode with its prefix, and its figure
  (D9). -/
  cycles : List (Nat × Nat)
  /-- `INT_CYCLES` of NMI service (D10). -/
  intCyclesNmi : Nat
  /-- `INT_CYCLES` of IRQ service (D10). -/
  intCyclesIrq : Nat
  /-- `INT_CYCLES` of FIRQ service (D10). -/
  intCyclesFirq : Nat
  /-- `INT_CYCLES` of the skip path after CWAI (D10). -/
  intCyclesSkip : Nat
  /-- `FALLBACK_EXTRA_CYCLES` (D6). -/
  fallbackExtraCycles : Nat
  /-- `ILLEGAL_INDEXED` (D7). -/
  illegalIndexed : IllegalIndexed
  /-- `RESET_INIT_CC_DP` (D16). -/
  resetInitCcDp : Bool
  /-- `RESET_FIRST` (D17). -/
  resetFirst : Bool
  /-- `MASKED_LINE_BLOCKS` (D66). -/
  maskedLineBlocks : Bool
  /-- `SEX_V` (D28). -/
  sexV : SexV
  /-- `TIMER_ZERO_STOPS` (D36). -/
  timerZeroStops : Bool
  /-- `GIME_MASTER_GATE` (D32). -/
  gimeMasterGate : Bool
  /-- `PERIPHERAL_WINDOWS` (D50). -/
  peripheralWindows : List PeripheralWindow
deriving DecidableEq, Repr

namespace Config

/-- `TIMER_OFFSET`, OPEN: the fixed offset added to the 12-bit timer value (00 R7, 60 R642). DESIGN CHOICE, log 8; safe. -/
opaque timerOffset : Nat

/-- `VSYNC_DOT`, OPEN: the dot of the VSYNC event (00 R7, 60 R650). DESIGN CHOICE, log 8; safe. -/
opaque vsyncDot : Fin 1820

/-- `VSYNC_LINE`, OPEN: the scanline of the VSYNC event (00 R7, 60 R650). DESIGN CHOICE, log 8; safe. -/
opaque vsyncLine : Fin 262

/-- The value of the n-th `Draw(8)` (00 R11): an unconstrained byte. DESIGN CHOICE, log 7; safe. -/
opaque freeByte : Nat → Byte

/-- The value of a `Draw(2)` taken as the n-th draw (00 R11, 20 R105): two unconstrained bits. DESIGN CHOICE, log 7; safe. -/
opaque freePair : Nat → BitVec 2

/-- The value of a `Draw(1)` taken as the n-th draw (00 R11, 40 R214): an unconstrained bit. DESIGN CHOICE, log 7; safe. -/
opaque freeBit : Nat → Bool

/-- Which 8 KiB of the ROM window a bank number outside 0x3C to 0x3F reads, where `ROM_BANKS` holds it: not stated
(20 R82). DESIGN CHOICE, log 25; safe. -/
opaque otherRomBank : BitVec 6 → Fin 4

end Config

end Sys2Proof
end

