-- ==== Sys2Proof/Machine/Params.lean ====
section
/-! DEFINITION. The defaults of the parameters (spec/00_scope.md R7, spec/92_eei_decisions.md), which the machine has after
reset (log 9), and the figures that the source itself fixes. -/

namespace Sys2Proof

/-- `RAM_SIZE` in bytes, a power of two (00 R7, D48). -/
def Params.ramSize (q : Params) : Nat := 2 ^ q.ramBits

namespace Config

/-- The defaults of 00 R7. That the peripheral of each window is present is the model's choice: log 17. -/
def defaults : Params where
  ramBits := 19
  fixedBase := 0x70000
  romBanks := [0x3C, 0x3D, 0x3E, 0x3F]
  romWritePolicy := .toRam
  constVectorsOverrideRom := false
  cycles := []
  intCyclesNmi := 19
  intCyclesIrq := 19
  intCyclesFirq := 10
  intCyclesSkip := 7
  fallbackExtraCycles := 1
  illegalIndexed := .fault
  resetInitCcDp := false
  resetFirst := false
  maskedLineBlocks := false
  sexV := .unchanged
  timerZeroStops := true
  gimeMasterGate := true
  peripheralWindows :=
    [{ first := 0xFF20, last := 0xFF3F, present := true }, { first := 0xFF40, last := 0xFF5F, present := true },
      { first := 0xFF80, last := 0xFF8F, present := true }]

/-- `RESET_CYCLES` (the source's figure, 60 R616). -/
def resetCycles : Nat := 2

/-- `DOTS_PER_LINE` (the source's figure, 60 R631). -/
def dotsPerLine : Nat := 1820

/-- `LINES_PER_FRAME` (the source's figure, 60 R631). -/
def linesPerFrame : Nat := 262

/-- `VBORD_LINE` (the source's figure, 60 R647). -/
def vbordLine : Nat := 13

/-- `FAST_TIMER_DIV` (the source's figure, 60 R640). -/
def fastTimerDiv : Nat := 8

/-- `CPU_DIV_SLOW` (the source's figure, 60 R632). -/
def cpuDivSlow : Nat := 32

/-- `CPU_DIV_FAST` (the source's figure, 60 R632). -/
def cpuDivFast : Nat := 16

end Config

end Sys2Proof
end

