-- ==== Sys2Proof/Machine/State.lean ====
section
/-! DEFINITION. The machine's state, all of spec/10_state.md, as plain data; its faults and refusals; and the power-on
state (spec/70_reset_and_hazards.md R700). -/

namespace Sys2Proof.Machine

/-- The CPU register file (10 R30). D is `a : b`, not separate storage (10 R31). -/
structure Regs where
  a : Byte
  b : Byte
  dp : Byte
  /-- Condition codes, bits C V Z N I H F E from bit 0 (10 R33). -/
  cc : Byte
  x : Word
  y : Word
  u : Word
  s : Word
  pc : Word
deriving DecidableEq, Repr

/-- The soft-halt state (10 R37). -/
inductive Halt where
  | none
  | cwaiWait
  | syncWait
  | invalidOpcode
deriving DecidableEq, Repr

/-- The sources of the FIRQ line, one bit each (10 R39, R40). -/
structure FirqSources where
  gimeTmr : Bool
  gimeVbord : Bool
  gimeEnv : Bool
  ext : Bool
deriving DecidableEq, Repr

/-- The sources of the IRQ line, one bit each (10 R39, R40). -/
structure IrqSources where
  pia0Vsync : Bool
  gimeTmr : Bool
  gimeVbord : Bool
  gimeEnv : Bool
  ext : Bool
deriving DecidableEq, Repr

/-- The four interrupt lines as source bitmasks (10 R39, R40). NMI and RESET have one source each: `EXT_NMI` and
`HOST_RESET`. -/
structure Lines where
  nmiExt : Bool
  firq : FirqSources
  irq : IrqSources
  resetHost : Bool
deriving DecidableEq, Repr

/-- The ROM images, a platform input that no step writes (10 R42, 00 R7). An image has at least one byte; the empty list
is an absent ROM. DESIGN CHOICE: carried in State so that a run can have a ROM; log 5. -/
structure Platform where
  internalRom : List Byte
  externalRom : List Byte
deriving DecidableEq, Repr

/-- The GIME's registers (10 R43 to R51, R55). -/
structure Gime where
  /-- 0xFF90 (10 R46). -/
  init0 : Byte
  /-- 0xFF91 (10 R47). -/
  init1 : Byte
  /-- The IRQ enable mask (10 R48). -/
  irqenr : Byte
  /-- The FIRQ enable mask (10 R48). -/
  firqenr : Byte
  /-- The latched IRQ flags (10 R49). -/
  irqFlags : Byte
  /-- The latched FIRQ flags (10 R49). -/
  firqFlags : Byte
  /-- The configured 12-bit timer value (10 R50). -/
  timerValue : BitVec 12
  /-- The running timer counter (10 R50). -/
  timerCount : Nat
  /-- The blink-toggle flag (10 R51). -/
  blink : Bool
  /-- The 16 bank registers (10 R43). -/
  bank : Vector (BitVec 6) 16
  /-- 0xFF98 to 0xFF9F (10 R55). -/
  video : Vector Byte 8
  /-- 0xFFB0 to 0xFFBF (10 R55). -/
  palette : Vector Byte 16
deriving DecidableEq, Repr

/-- PIA0: the VSYNC latch and the bytes stored with no CORE effect (10 R54, 20 R107). -/
structure Pia0 where
  dataA : Byte
  ctrlA : Byte
  dataB : Byte
  /-- CRB bits 5..0 (10 R54). -/
  crb : BitVec 6
  /-- CRB bit 7 (10 R54). -/
  vsyncFlag : Bool
deriving DecidableEq, Repr

/-- The sequencer's counters (10 R53). -/
structure Sequencer where
  masterCycle : Nat
  dot : Nat
  scanline : Nat
deriving DecidableEq, Repr

/-- The GIME events of the environment: HBORD, EI2, EI1, EI0 (10 R48, 60 R662). -/
inductive EnvGime where
  | hbord
  | ei2
  | ei1
  | ei0
deriving DecidableEq, Repr

/-- The environment's line bits (10 R40, 60 R662). -/
inductive ExtLine where
  | irq
  | firq
  | nmi
deriving DecidableEq, Repr

/-- One input of the environment between two master ticks (60 R662, R674 to R676). -/
inductive EnvInput where
  /-- Set or clear `EXT_IRQ`, `EXT_FIRQ` or `EXT_NMI`. -/
  | line (l : ExtLine) (asserted : Bool)
  /-- `GimeEvent(k)` for k in 4, 2, 1, 0. -/
  | gime (k : EnvGime)
  /-- Set or clear `hwHalt`. -/
  | hwHalt (asserted : Bool)
  /-- Add `HOST_RESET` to the RESET line (60 R674). -/
  | hostReset
  /-- `forcePC(address)` (60 R675). -/
  | forcePC (address : Word)
  /-- One byte of a loader's block, through the physical entry (60 R676). -/
  | loadByte (p : Nat) (v : Byte)
deriving DecidableEq, Repr

/-- One act of an attached peripheral inside its poll of a master tick (60 R671, R672). -/
inductive PeriphAction where
  /-- Assert `EXT_NMI`. -/
  | assertNmi
  /-- Set or clear `hwHalt`. -/
  | hwHalt (asserted : Bool)
  /-- A DMA-like write through the physical entry (20 R89). -/
  | physWrite (p : Nat) (v : Byte)
deriving DecidableEq, Repr

/-- Physical RAM: the bytes that differ from what an unlisted address reads as, addresses strictly rising
(`Memory.wf`). -/
abbrev Memory := List Host.Cell

/-- The machine (10 R30 to R56). -/
structure State where
  regs : Regs
  /-- The pending-cycle counter (10 R36). -/
  pending : Nat
  /-- The running cycle total of the current step (60 R600). -/
  cyc : Nat
  halt : Halt
  /-- The hardware-halt input (10 R38). -/
  hwHalt : Bool
  lines : Lines
  /-- Physical RAM (10 R41). -/
  ram : Memory
  gime : Gime
  /-- The 16 SAM fields (10 R52). -/
  sam : BitVec 16
  pia : Pia0
  seq : Sequencer
  platform : Platform
  /-- The parameters of the installation, which no step writes (00 R7; log 9). -/
  params : Params
  /-- The model's own field: the environment's inputs to come, one batch per master tick (60 R662; log 10). -/
  env : List (List EnvInput)
  /-- The model's own field: the peripherals' actions to come, one batch per master tick (60 R671; log 10). -/
  periph : List (List PeriphAction)
  /-- The model's own field: how many free values have been drawn (00 R11; log 7). -/
  draws : Nat
deriving DecidableEq, Repr

/-- Why the model stops with a fault. -/
inductive Fault where
  /-- `ModelFault(IllegalIndexed)`: the bytes at PC hold an undefined indexed postbyte (30 R170, D7), by the default of
  `ILLEGAL_INDEXED`. Raised by the CPU step at decode, by no instruction's meaning. Safe: the spec gives no behaviour and says that the model stops. -/
  | illegalIndexed
deriving DecidableEq, Repr

/-- Why the model refuses. -/
inductive Refusal where
  /-- The bytes at PC hold an undefined indexed postbyte and `ILLEGAL_INDEXED` refuses the program (30 R170, U2). Raised by
  the CPU step at decode, by no instruction's meaning. Safe, as the fault of the same name. -/
  | illegalIndexed
  /-- The instruction has no meaning yet. Raised by no arm: every row is modelled. Safe. -/
  | notModelled (mnemonic : String)
deriving DecidableEq, Repr

/-- Power-on (70 R700). The values the spec leaves unspecified are 0, the ROMs are absent and the parameters have
their defaults: DESIGN CHOICE, unsafe, logs 1 to 5, 9 and 17. -/
def State.reset : State where
  regs := { a := 0, b := 0, dp := 0, cc := 0, x := 0, y := 0, u := 0, s := 0, pc := 0 }
  pending := 0
  cyc := 0
  halt := .none
  hwHalt := false
  lines :=
    { nmiExt := false
      firq := { gimeTmr := false, gimeVbord := false, gimeEnv := false, ext := false }
      irq := { pia0Vsync := false, gimeTmr := false, gimeVbord := false, gimeEnv := false, ext := false }
      resetHost := true }
  ram := []
  gime :=
    { init0 := 0, init1 := 0, irqenr := 0, firqenr := 0, irqFlags := 0, firqFlags := 0
      timerValue := 0, timerCount := 0, blink := false
      bank := Vector.replicate 16 0, video := Vector.replicate 8 0, palette := Vector.replicate 16 0 }
  sam := 0
  pia := { dataA := 0, ctrlA := 0, dataB := 0, crb := 0, vsyncFlag := false }
  seq := { masterCycle := 0, dot := 0, scanline := 0 }
  platform := { internalRom := [], externalRom := [] }
  params := Config.defaults
  env := []
  periph := []
  draws := 0

end Sys2Proof.Machine
end

