-- ==== Sys2Proof/Machine/Memory.lean ====
section
/-! DEFINITION. Physical RAM: a byte array of RAM_SIZE bytes (spec/10_state.md R41), every address masked
(spec/20_memory.md R86), and the bus's physical entry (20 R89). -/

namespace Sys2Proof.Machine

/-- What a byte of RAM that nothing has written reads as. DESIGN CHOICE: the spec leaves power-on RAM unspecified
(10 R41); unsafe, log 3. -/
def unlistedByte : Byte := 0

/-- The masked RAM address: `p & (RAM_SIZE - 1)`, with RAM_SIZE a power of two (20 R86). -/
def State.ramAddr (s : State) (p : Nat) : Nat := p % s.params.ramSize

/-- The byte at a RAM address. -/
def ramRead : Memory → Nat → Byte
  | [], _ => unlistedByte
  | (q, w) :: rest, p => if p = q then w else ramRead rest p

/-- The cell of a value in front of a list: nothing where an unlisted address reads as it. -/
def consCell (p : Nat) (v : Byte) (rest : Memory) : Memory :=
  if v = unlistedByte then rest else (p, v) :: rest

/-- Write a byte at a RAM address, keeping the canonical form. -/
def ramWrite : Memory → Nat → Byte → Memory
  | [], p, v => consCell p v []
  | (q, w) :: rest, p, v =>
    if p < q then consCell p v ((q, w) :: rest)
    else if p = q then consCell p v rest
    else (q, w) :: ramWrite rest p v

/-- The canonical form above a lower bound: addresses strictly rising, no entry that an unlisted address reads as. -/
def ramWfFrom : Nat → Memory → Bool
  | _, [] => true
  | lo, (q, w) :: rest => decide (lo ≤ q) && (w != unlistedByte) && ramWfFrom (q + 1) rest

/-- The canonical form of RAM. -/
def Memory.wf (m : Memory) : Bool := ramWfFrom 0 m

/-- Every address listed lies inside the installed RAM (20 R86). -/
def State.ramInside (s : State) : Bool := s.ram.all fun c => decide (c.1 < s.params.ramSize)

/-- `PhysRead(p)` (20 R89). -/
def State.physRead (s : State) (p : Nat) : Byte := ramRead s.ram (s.ramAddr p)

/-- `PhysWrite(p, v)` (20 R89). -/
def State.physWrite (s : State) (p : Nat) (v : Byte) : State := { s with ram := ramWrite s.ram (s.ramAddr p) v }

end Sys2Proof.Machine
end

