-- ==== Sys2Proof/Machine/Bus.lean ====
section
/-! DEFINITION. The logical bus (spec/20_memory.md): the fields of the GIME and SAM registers, address translation, ROM,
the I/O registers with their side effects, and byte and word accesses. -/

namespace Sys2Proof.Machine

/-! Fields of the control registers. -/

/-- The ROM mapping (10 R45, R46). -/
inductive RomMode where
  | split16_16
  | internal32
  | external32
deriving DecidableEq, Repr

/-- INIT0 bit 6 (10 R46). -/
def State.mmuEnable (s : State) : Bool := s.gime.init0.getLsbD 6

/-- INIT0 bit 5: the gate of the GIME IRQ sources (10 R46). -/
def State.ien (s : State) : Bool := s.gime.init0.getLsbD 5

/-- INIT0 bit 4: the gate of the GIME FIRQ sources (10 R46). -/
def State.fen (s : State) : Bool := s.gime.init0.getLsbD 4

/-- INIT0 bit 3 (10 R46). -/
def State.constVectors (s : State) : Bool := s.gime.init0.getLsbD 3

/-- INIT0 bits 1..0: 10 is `Internal32`, 11 `External32`, else `Split16_16` (10 R46, 20 R100). -/
def State.romMode (s : State) : RomMode :=
  if s.gime.init0.getLsbD 1 then (if s.gime.init0.getLsbD 0 then .external32 else .internal32) else .split16_16

/-- INIT1 bit 0 (10 R44, R47). -/
def State.task (s : State) : BitVec 1 := s.gime.init1.extractLsb' 0 1

/-- INIT1 bit 5, TINS (10 R47). -/
def State.timerFast (s : State) : Bool := s.gime.init1.getLsbD 5

/-- The SAM's TY field, 15 (10 R45, R52). -/
def State.allRam (s : State) : Bool := s.sam.getLsbD 15

/-- The CPU divisor, from the SAM's R1 field, 12 (10 R52). -/
def State.cpuDiv (s : State) : Nat := if s.sam.getLsbD 12 then Config.cpuDivFast else Config.cpuDivSlow

/-! ROM. -/

/-- A byte of an image addressed modulo its length; 0xFF where it is absent (20 R94). -/
def imageByte (image : List Byte) (o : Nat) : Byte := image.getD (o % image.length) 0xFF

/-- `IntRom(o)` (20 R94). -/
def State.intRom (s : State) (o : Nat) : Byte := imageByte s.platform.internalRom o

/-- `ExtRom(o)` (20 R94). -/
def State.extRom (s : State) (o : Nat) : Byte := imageByte s.platform.externalRom o

/-- `RomRead(L)` (20 R92). -/
def State.romRead (s : State) (l : Word) : Byte :=
  match s.romMode with
  | .internal32 => s.intRom (l.toNat - 0x8000)
  | .external32 => s.extRom (l.toNat - 0x8000)
  | .split16_16 => if l.toNat < 0xC000 then s.intRom (l.toNat - 0x8000) else s.extRom (l.toNat - 0x8000)

/-! Translation. -/

/-- The index of the bank register that maps an address: `a[15:13] + 8 * task` (20 R81). -/
def State.blockOf (s : State) (a : Word) : BitVec 4 := s.task ++ a.extractLsb' 13 3

/-- The bank number that maps an address (20 R81). -/
def State.bankOf (s : State) (a : Word) : BitVec 6 := s.gime.bank.get (s.blockOf a).toFin

/-- A bank number in `ROM_BANKS` (20 R82). -/
def State.isRomBank (s : State) (bn : BitVec 6) : Bool := s.params.romBanks.contains bn

/-- Which 8 KiB of the ROM window a bank reads: bank 0x3C + k the k-th (20 R82). For a bank number outside 0x3C to 0x3F,
which another `ROM_BANKS` may hold, it is free: log 25. -/
def bankBlock (bn : BitVec 6) : Nat := if 0x3C ≤ bn.toNat then bn.toNat - 0x3C else (Config.otherRomBank bn).val

/-- The ROM window address of a bank (20 R81, R82). -/
def bankWindow (bn : BitVec 6) (low : Nat) : Word := BitVec.ofNat 16 (0x8000 + bankBlock bn * 0x2000 + low)

/-- Whether the MMU translates an address, and not the fixed map (20 R81, R83). -/
def State.mmuMaps (s : State) (a : Word) : Bool := s.mmuEnable && (decide (a.toNat < 0xFE00) || !s.constVectors)

/-- `Translate(a)`: the masked physical RAM address and, where the read is routed to ROM, the ROM window address
(20 R81 to R83, R86). -/
def State.translate (s : State) (a : Word) : Nat × Option Word :=
  if s.mmuMaps a then
    let bn := s.bankOf a
    let low := (a.extractLsb' 0 13).toNat
    (s.ramAddr (bn.toNat * 0x2000 + low),
      if s.isRomBank bn && !s.allRam then some (bankWindow bn low) else none)
  else
    (s.ramAddr (s.params.fixedBase + a.toNat),
      if !s.allRam && decide (0x8000 ≤ a.toNat) &&
          !(s.params.constVectorsOverrideRom && s.constVectors && decide (0xFE00 ≤ a.toNat)) then
        some a
      else none)

/-! I/O registers. -/

/-- What an I/O address reaches (20 R90, R96 to R109). -/
inductive IoReg where
  /-- PIA0 register `a & 3` (20 R107). -/
  | pia0 (sel : BitVec 2)
  /-- The window of a peripheral that is present (20 R98). -/
  | peripheral
  | init0
  | init1
  | irqenr
  | firqenr
  | timerHi
  | timerLo
  /-- 0xFF98 to 0xFF9F (20 R118). -/
  | video (i : BitVec 3)
  /-- 0xFFA0 to 0xFFAF (20 R105). -/
  | bank (i : BitVec 4)
  /-- 0xFFB0 to 0xFFBF (20 R118). -/
  | palette (i : BitVec 4)
  /-- SAM field `k`, the address that clears or sets it (20 R106). -/
  | sam (k : BitVec 4) (set : Bool)
  /-- No register, and no peripheral present (20 R97). -/
  | undefined
deriving DecidableEq, Repr

/-- An address lies in the window of a peripheral that is present (00 R7, 20 R97, R98). -/
def forwarded (q : Params) (n : Nat) : Bool :=
  q.peripheralWindows.any fun w => w.present && decide (w.first ≤ n) && decide (n ≤ w.last)

/-- What an address that no CORE register occupies reaches: a peripheral, or nothing (20 R97, R98). -/
def windowReg (q : Params) (n : Nat) : IoReg := if forwarded q n then .peripheral else .undefined

/-- The register at an address 0xFF00 to 0xFFDF (20 R90, R96). A CORE register comes before a window over it: log 17. -/
def ioReg (q : Params) (a : Word) : IoReg :=
  let n := a.toNat
  if n < 0xFF20 then .pia0 (a.extractLsb' 0 2)
  else if n < 0xFF90 then windowReg q n
  else if n = 0xFF90 then .init0
  else if n = 0xFF91 then .init1
  else if n = 0xFF92 then .irqenr
  else if n = 0xFF93 then .firqenr
  else if n = 0xFF94 then .timerHi
  else if n = 0xFF95 then .timerLo
  else if n < 0xFF98 then windowReg q n
  else if n < 0xFFA0 then .video (a.extractLsb' 0 3)
  else if n < 0xFFB0 then .bank (a.extractLsb' 0 4)
  else if n < 0xFFC0 then .palette (a.extractLsb' 0 4)
  else .sam (a.extractLsb' 1 4) (a.getLsbD 0)

/-- One more free value drawn. -/
def State.countDraw (s : State) : State := { s with draws := s.draws + 1 }

/-- `Draw(8)` (00 R11): a free byte. -/
def State.drawByte (s : State) : Byte × State := (Config.freeByte s.draws, s.countDraw)

/-- The PIA0 VSYNC acknowledgement: clears `vsyncFlag` and the `PIA0_VSYNC` source bit (20 R108). -/
def State.ackVsync (s : State) : State :=
  { s with
    pia := { s.pia with vsyncFlag := false }
    lines := { s.lines with irq := { s.lines.irq with pia0Vsync := false } } }

/-- The GIME IRQ acknowledgement: clears `irqFlags` and the GIME source bits of the IRQ line (20 R103). -/
def State.ackGimeIrq (s : State) : State :=
  { s with
    gime := { s.gime with irqFlags := 0 }
    lines :=
      { s.lines with
        irq := { s.lines.irq with gimeTmr := false, gimeVbord := false, gimeEnv := false } } }

/-- The GIME FIRQ acknowledgement: clears `firqFlags` and the GIME source bits of the FIRQ line (20 R103). -/
def State.ackGimeFirq (s : State) : State :=
  { s with
    gime := { s.gime with firqFlags := 0 }
    lines :=
      { s.lines with
        firq := { s.lines.firq with gimeTmr := false, gimeVbord := false, gimeEnv := false } } }

/-- A read of CRB: `vsyncFlag : 0 : bits 5..0` (10 R54). -/
def State.crbByte (s : State) : Byte := (BitVec.ofBool s.pia.vsyncFlag ++ 0#1 ++ s.pia.crb : BitVec 8)

/-- `IoRead(a)` (20 R96): the value and the side effects of a read. -/
def State.ioRead (s : State) (a : Word) : Byte × State :=
  match ioReg s.params a with
  | .pia0 sel =>
    match sel.toNat with
    | 2 => s.ackVsync.drawByte
    | 3 => (s.crbByte, s)
    | _ => s.drawByte
  | .peripheral => s.drawByte
  | .init0 => s.drawByte
  | .init1 => s.drawByte
  | .irqenr => (s.gime.irqFlags, s.ackGimeIrq)
  | .firqenr => (s.gime.firqFlags, s.ackGimeFirq)
  | .timerHi => s.drawByte
  | .timerLo => s.drawByte
  | .video _ => s.drawByte
  | .bank i => ((Config.freePair s.draws ++ s.gime.bank.get i.toFin : BitVec 8), s.countDraw)
  | .palette _ => s.drawByte
  | .sam _ _ => s.drawByte
  | .undefined => (0xFF, s)

/-- The reload of the timer counter at a write and on reaching zero (20 R104, 60 R642). -/
def timerReload (value : BitVec 12) : Nat := value.toNat + Config.timerOffset

/-- A write of the timer value, which reloads the counter (20 R104). -/
def State.setTimer (s : State) (value : BitVec 12) : State :=
  { s with gime := { s.gime with timerValue := value, timerCount := timerReload value } }

/-- A write of CRB: bits 5..0, then the source bit is `vsyncFlag and CRB[0]` (20 R109). -/
def State.setCrb (s : State) (v : Byte) : State :=
  { s with
    pia := { s.pia with crb := v.extractLsb' 0 6 }
    lines := { s.lines with irq := { s.lines.irq with pia0Vsync := v.getLsbD 0 && s.pia.vsyncFlag } } }

/-- `IoWrite(a, v)` (20 R96). -/
def State.ioWrite (s : State) (a : Word) (v : Byte) : State :=
  match ioReg s.params a with
  | .pia0 sel =>
    match sel.toNat with
    | 0 => { s with pia := { s.pia with dataA := v } }
    | 1 => { s with pia := { s.pia with ctrlA := v } }
    | 2 => { s with pia := { s.pia with dataB := v } }
    | _ => s.setCrb v
  | .peripheral => s
  | .init0 => { s with gime := { s.gime with init0 := v } }
  | .init1 => { s with gime := { s.gime with init1 := v } }
  | .irqenr => { s with gime := { s.gime with irqenr := v } }
  | .firqenr => { s with gime := { s.gime with firqenr := v } }
  | .timerHi => s.setTimer (v.extractLsb' 0 4 ++ s.gime.timerValue.extractLsb' 0 8)
  | .timerLo => s.setTimer (s.gime.timerValue.extractLsb' 8 4 ++ v)
  | .video i => { s with gime := { s.gime with video := s.gime.video.set i.toNat v } }
  | .bank i => { s with gime := { s.gime with bank := s.gime.bank.set i.toNat (v.extractLsb' 0 6) } }
  | .palette i => { s with gime := { s.gime with palette := s.gime.palette.set i.toNat v } }
  | .sam k set => { s with sam := putBit s.sam k.toNat set }
  | .undefined => s

/-! The logical bus. -/

/-- `ReadByte(a)`, `MemRead(a, 1)` (20 R80). -/
def State.readByte (s : State) (a : Word) : Byte × State :=
  if 0xFFE0 ≤ a.toNat then (s.intRom (a.toNat - 0x8000), s)
  else if 0xFF00 ≤ a.toNat then s.ioRead a
  else
    match (s.translate a).2 with
    | some l => (s.romRead l, s)
    | none => (ramRead s.ram (s.translate a).1, s)

/-- The RAM address a write at a logical address stores to, if it stores to RAM: below 0xFF00, and under ROM only where
`ROM_WRITE_POLICY` is `ToRAM` (20 R87). -/
def State.storeAddr (s : State) (a : Word) : Option Nat :=
  if 0xFF00 ≤ a.toNat then none
  else if (s.translate a).2.isNone || decide (s.params.romWritePolicy = .toRam) then some (s.translate a).1
  else none

/-- `WriteByte(a, v)`, `MemWrite(a, 1, v)` (20 R87). -/
def State.writeByte (s : State) (a : Word) (v : Byte) : State :=
  if 0xFFE0 ≤ a.toNat then s
  else if 0xFF00 ≤ a.toNat then s.ioWrite a v
  else
    match s.storeAddr a with
    | some p => { s with ram := ramWrite s.ram p v }
    | none => s

/-- `MemRead(a, 2)`: two byte reads, high byte first (20 R84, 00 R11). -/
def State.readWord (s : State) (a : Word) : Word × State :=
  let hi := s.readByte a
  let lo := hi.2.readByte (a + 1)
  (joinBytes hi.1 lo.1, lo.2)

/-- `MemWrite(a, 2, v)`: two byte writes, high byte first (20 R84, 00 R11). -/
def State.writeWord (s : State) (a : Word) (v : Word) : State :=
  (s.writeByte a (hiByte v)).writeByte (a + 1) (loByte v)

end Sys2Proof.Machine
end

