-- ==== Sys2Proof/Machine/Flags.lean ====
section
/-! DEFINITION. The condition codes (spec/10_state.md R33) and every ALU function with its flag outputs
(spec/40_alu.md R200 to R215). A flag output is `none` where the function does not write the flag. -/

namespace Sys2Proof.Machine

/-- The eight flags (10 R33). -/
inductive Flag where
  | c
  | v
  | z
  | n
  | i
  | h
  | f
  | e
deriving DecidableEq, Repr

/-- The bit of CC that holds a flag (10 R33). -/
def flagBit : Flag → Nat
  | .c => 0
  | .v => 1
  | .z => 2
  | .n => 3
  | .i => 4
  | .h => 5
  | .f => 6
  | .e => 7

/-- A flag of a CC byte. -/
def ccGet (cc : Byte) (k : Flag) : Bool := cc.getLsbD (flagBit k)

/-- A CC byte with one flag written. -/
def ccPut (cc : Byte) (k : Flag) (b : Bool) : Byte := putBit cc (flagBit k) b

/-- The flags an ALU function writes: `none` is "unchanged" (00 R12, 40 R200). -/
structure FlagWrites where
  h : Option Bool := none
  n : Option Bool := none
  z : Option Bool := none
  v : Option Bool := none
  c : Option Bool := none
deriving DecidableEq, Repr

/-- An 8-bit result and its flag writes (40 R200). -/
structure Alu8 where
  r : Byte
  fl : FlagWrites
deriving DecidableEq, Repr

/-- A 16-bit result and its flag writes (40 R200). -/
structure Alu16 where
  r : Word
  fl : FlagWrites
deriving DecidableEq, Repr

/-- Write a flag where a function gives it a value. -/
def ccPutIf (cc : Byte) (k : Flag) (b : Option Bool) : Byte :=
  match b with
  | none => cc
  | some x => ccPut cc k x

/-- Write the flags of a record; every other bit of CC stays (00 R12). -/
def applyFlags (fl : FlagWrites) (cc : Byte) : Byte :=
  ccPutIf (ccPutIf (ccPutIf (ccPutIf (ccPutIf cc .h fl.h) .n fl.n) .z fl.z) .v fl.v) .c fl.c

/-- `ADD8(a, b, cin)` (40 R202). -/
def add8 (a b : Byte) (cin : Bool) : Alu8 :=
  let t := a.toNat + b.toNat + cin.toNat
  let r := BitVec.ofNat 8 t
  { r := r
    fl :=
      { h := some (decide (15 < a.toNat % 16 + b.toNat % 16 + cin.toNat))
        n := some r.msb
        z := some (r == 0)
        v := some ((a ^^^ r) &&& (b ^^^ r)).msb
        c := some (t.testBit 8) } }

/-- `SUB8(a, b, cin)` (40 R203): the exact difference, cut to 8 bits. -/
def sub8 (a b : Byte) (cin : Bool) : Alu8 :=
  let t : Int := a.toNat - b.toNat - cin.toNat
  let r := BitVec.ofInt 8 t
  { r := r
    fl :=
      { n := some r.msb
        z := some (r == 0)
        v := some ((a ^^^ b) &&& (a ^^^ r)).msb
        c := some (decide (t < 0)) } }

/-- `ADD16(a, b)` (40 R204). -/
def add16 (a b : Word) : Alu16 :=
  let t := a.toNat + b.toNat
  let r := BitVec.ofNat 16 t
  { r := r
    fl :=
      { n := some r.msb
        z := some (r == 0)
        v := some ((a ^^^ r) &&& (b ^^^ r)).msb
        c := some (t.testBit 16) } }

/-- `SUB16(a, b)` (40 R205): the exact difference, cut to 16 bits. -/
def sub16 (a b : Word) : Alu16 :=
  let t : Int := a.toNat - b.toNat
  let r := BitVec.ofInt 16 t
  { r := r
    fl :=
      { n := some r.msb
        z := some (r == 0)
        v := some ((a ^^^ b) &&& (a ^^^ r)).msb
        c := some (decide (t < 0)) } }

/-- The flags of a logic result or a moved byte: N, Z, V cleared (40 R206, R207). -/
def moveFlags8 (r : Byte) : FlagWrites := { n := some r.msb, z := some (r == 0), v := some false }

/-- The flags of a moved word: N, Z, V cleared (40 R207). -/
def moveFlags16 (r : Word) : FlagWrites := { n := some r.msb, z := some (r == 0), v := some false }

/-- `MOVE8(v)` (40 R207). -/
def move8 (v : Byte) : Alu8 := { r := v, fl := moveFlags8 v }

/-- `AND8(a, b)` (40 R206). -/
def and8 (a b : Byte) : Alu8 := move8 (a &&& b)

/-- `OR8(a, b)` (40 R206). -/
def or8 (a b : Byte) : Alu8 := move8 (a ||| b)

/-- `EOR8(a, b)` (40 R206). -/
def eor8 (a b : Byte) : Alu8 := move8 (a ^^^ b)

/-- `NEG8(v)` (40 R208). -/
def neg8 (v : Byte) : Alu8 :=
  let r := -v
  { r := r, fl := { n := some r.msb, z := some (r == 0), v := some (v == 0x80), c := some (v != 0) } }

/-- `COM8(v)` (40 R209). -/
def com8 (v : Byte) : Alu8 :=
  let r := ~~~v
  { r := r, fl := { n := some r.msb, z := some (r == 0), v := some false, c := some true } }

/-- Clear (40 R210). -/
def clr8 : Alu8 :=
  { r := 0, fl := { n := some false, z := some true, v := some false, c := some false } }

/-- `INC8(v)` (40 R211). -/
def inc8 (v : Byte) : Alu8 :=
  let r := v + 1
  { r := r, fl := { n := some r.msb, z := some (r == 0), v := some (v == 0x7F) } }

/-- `DEC8(v)` (40 R211). -/
def dec8 (v : Byte) : Alu8 :=
  let r := v - 1
  { r := r, fl := { n := some r.msb, z := some (r == 0), v := some (v == 0x80) } }

/-- `LSR8(v)` (40 R212). -/
def lsr8 (v : Byte) : Alu8 :=
  let r := v >>> 1
  { r := r, fl := { n := some false, z := some (r == 0), c := some (v.getLsbD 0) } }

/-- `ASR8(v)` (40 R212). -/
def asr8 (v : Byte) : Alu8 :=
  let r := (v >>> 1) ||| (v &&& 0x80)
  { r := r, fl := { n := some r.msb, z := some (r == 0), c := some (v.getLsbD 0) } }

/-- `ASL8(v)` (40 R212). -/
def asl8 (v : Byte) : Alu8 :=
  let r := v <<< 1
  { r := r
    fl := { n := some r.msb, z := some (r == 0), v := some (v.getLsbD 7 ^^ v.getLsbD 6), c := some (v.getLsbD 7) } }

/-- `ROL8(v, c)` (40 R212). -/
def rol8 (v : Byte) (c : Bool) : Alu8 :=
  let r := (v <<< 1) ||| (BitVec.ofBool c).setWidth 8
  { r := r
    fl := { n := some r.msb, z := some (r == 0), v := some (v.getLsbD 7 ^^ v.getLsbD 6), c := some (v.getLsbD 7) } }

/-- `ROR8(v, c)` (40 R212). -/
def ror8 (v : Byte) (c : Bool) : Alu8 :=
  let r := (v >>> 1) ||| ((BitVec.ofBool c).setWidth 8 <<< 7)
  { r := r, fl := { n := some r.msb, z := some (r == 0), c := some (v.getLsbD 0) } }

/-- `MUL8(a, b)` (40 R213). -/
def mul8 (a b : Byte) : Alu16 :=
  let r := BitVec.ofNat 16 (a.toNat * b.toNat)
  { r := r, fl := { z := some (r == 0), c := some (r.getLsbD 7) } }

/-- The correction of `DAA8(a, c, h)`, `cf` (40 R214). -/
def daaCorrection (a : Byte) (c h : Bool) : Nat :=
  let lsn := a.toNat % 16
  let msn := a.toNat / 16
  (if h || decide (9 < lsn) then 0x06 else 0) +
    (if c || decide (9 < msn) || (decide (8 < msn) && decide (9 < lsn)) then 0x60 else 0)

/-- `DAA8(a, c, h)` (40 R214). V is a `Draw(1)`, the argument `freeV` (D27). -/
def daa8 (a : Byte) (c h freeV : Bool) : Alu8 :=
  let t := a.toNat + daaCorrection a c h
  let r := BitVec.ofNat 8 t
  { r := r
    fl := { n := some r.msb, z := some (r == 0), v := some freeV, c := some (c || t.testBit 8) } }

end Sys2Proof.Machine
end

