-- ==== Sys2Proof/Machine/Ops.lean ====
section
/-! DEFINITION. The named operations over registers, stack and control state: register access, the stack protocol
(spec/46_stack_system.md R500, R501), TFR and EXG codes (spec/30_encoding.md R174 to R176), taking an exception and
returning from one (46 R508 to R511, spec/60_exceptions.md R606 to R614). -/

namespace Sys2Proof.Machine

/-- The outcome of an instruction or a step. -/
abbrev Result := Host.Outcome State Fault Refusal

/-! Registers. -/

/-- A register file put in place of the old. -/
def State.setRegs (s : State) (r : Regs) : State := { s with regs := r }

/-- Write A (10 R30). -/
def State.setA (s : State) (v : Byte) : State := s.setRegs { s.regs with a := v }

/-- Write B (10 R30). -/
def State.setB (s : State) (v : Byte) : State := s.setRegs { s.regs with b := v }

/-- Write DP (10 R30). -/
def State.setDP (s : State) (v : Byte) : State := s.setRegs { s.regs with dp := v }

/-- Write all of CC (10 R33). -/
def State.setCC (s : State) (v : Byte) : State := s.setRegs { s.regs with cc := v }

/-- Write X (10 R30). -/
def State.setX (s : State) (v : Word) : State := s.setRegs { s.regs with x := v }

/-- Write Y (10 R30). -/
def State.setY (s : State) (v : Word) : State := s.setRegs { s.regs with y := v }

/-- Write U (10 R30). -/
def State.setU (s : State) (v : Word) : State := s.setRegs { s.regs with u := v }

/-- Write S (10 R30). -/
def State.setS (s : State) (v : Word) : State := s.setRegs { s.regs with s := v }

/-- Write PC (10 R35). -/
def State.setPC (s : State) (v : Word) : State := s.setRegs { s.regs with pc := v }

/-- D, the concatenation A : B (10 R31). -/
def State.d (s : State) : Word := joinBytes s.regs.a s.regs.b

/-- Write D: both A and B (10 R31). -/
def State.setD (s : State) (v : Word) : State := s.setRegs { s.regs with a := hiByte v, b := loByte v }

/-- A flag of CC. -/
def State.flag (s : State) (k : Flag) : Bool := ccGet s.regs.cc k

/-- Write one flag of CC. -/
def State.setFlag (s : State) (k : Flag) (b : Bool) : State := s.setCC (ccPut s.regs.cc k b)

/-- Write the flags of an ALU output; the others are unchanged (00 R12). -/
def State.putFlags (s : State) (fl : FlagWrites) : State := s.setCC (applyFlags fl s.regs.cc)

/-- `cyc <- cyc + n` (00 R11). -/
def State.addCyc (s : State) (n : Nat) : State := { s with cyc := s.cyc + n }

/-- Write the soft-halt state (10 R37). -/
def State.setHalt (s : State) (h : Halt) : State := { s with halt := h }

/-! The stacks. -/

/-- A stack pointer: S or U (00 R11). -/
inductive Stack where
  | s
  | u
deriving DecidableEq, Repr

/-- The pointer of a stack. -/
def State.sp (s : State) : Stack → Word
  | .s => s.regs.s
  | .u => s.regs.u

/-- Write the pointer of a stack. -/
def State.setSp (s : State) (k : Stack) (v : Word) : State :=
  match k with
  | .s => s.setS v
  | .u => s.setU v

/-- The other stack: U when the pointer is S, S when it is U (46 R500). -/
def otherStack : Stack → Stack
  | .s => .u
  | .u => .s

/-- `Push8(sp, v)` (00 R11). -/
def State.push8 (s : State) (k : Stack) (v : Byte) : State :=
  (s.setSp k (s.sp k - 1)).writeByte (s.sp k - 1) v

/-- `Push16(sp, v)`: low byte, then high byte (00 R11). -/
def State.push16 (s : State) (k : Stack) (v : Word) : State := (s.push8 k (loByte v)).push8 k (hiByte v)

/-- `Pull8(sp)` (00 R11). -/
def State.pull8 (s : State) (k : Stack) : Byte × State :=
  let r := s.readByte (s.sp k)
  (r.1, r.2.setSp k (r.2.sp k + 1))

/-- `Pull16(sp)`: high byte, then low byte (00 R11). -/
def State.pull16 (s : State) (k : Stack) : Word × State :=
  let hi := s.pull8 k
  let lo := hi.2.pull8 k
  (joinBytes hi.1 lo.1, lo.2)

/-- A step of the stack protocol that its mask bit selects. -/
def whenBit (mask : Byte) (k : Nat) (f : State → State) (s : State) : State := if mask.getLsbD k then f s else s

/-- `PushRegs(sp, mask)` (46 R500): PC, the other pointer, Y, X, DP, B, A, CC. -/
def State.pushRegs (s : State) (k : Stack) (mask : Byte) : State :=
  whenBit mask 0 (fun t => t.push8 k t.regs.cc)
    (whenBit mask 1 (fun t => t.push8 k t.regs.a)
      (whenBit mask 2 (fun t => t.push8 k t.regs.b)
        (whenBit mask 3 (fun t => t.push8 k t.regs.dp)
          (whenBit mask 4 (fun t => t.push16 k t.regs.x)
            (whenBit mask 5 (fun t => t.push16 k t.regs.y)
              (whenBit mask 6 (fun t => t.push16 k (t.sp (otherStack k)))
                (whenBit mask 7 (fun t => t.push16 k t.regs.pc) s)))))))

/-- `CC <- Pull8(sp)` (46 R501). -/
def State.pullCC (s : State) (k : Stack) : State := (s.pull8 k).2.setCC (s.pull8 k).1

/-- `A <- Pull8(sp)` (46 R501). -/
def State.pullA (s : State) (k : Stack) : State := (s.pull8 k).2.setA (s.pull8 k).1

/-- `B <- Pull8(sp)` (46 R501). -/
def State.pullB (s : State) (k : Stack) : State := (s.pull8 k).2.setB (s.pull8 k).1

/-- `DP <- Pull8(sp)` (46 R501). -/
def State.pullDP (s : State) (k : Stack) : State := (s.pull8 k).2.setDP (s.pull8 k).1

/-- `X <- Pull16(sp)` (46 R501). -/
def State.pullX (s : State) (k : Stack) : State := (s.pull16 k).2.setX (s.pull16 k).1

/-- `Y <- Pull16(sp)` (46 R501). -/
def State.pullY (s : State) (k : Stack) : State := (s.pull16 k).2.setY (s.pull16 k).1

/-- `other <- Pull16(sp)` (46 R501). -/
def State.pullOther (s : State) (k : Stack) : State := (s.pull16 k).2.setSp (otherStack k) (s.pull16 k).1

/-- `PC <- Pull16(sp)` (46 R501). -/
def State.pullPC (s : State) (k : Stack) : State := (s.pull16 k).2.setPC (s.pull16 k).1

/-- `PullRegs(sp, mask)` (46 R501): CC, A, B, DP, X, Y, the other pointer, PC. -/
def State.pullRegs (s : State) (k : Stack) (mask : Byte) : State :=
  whenBit mask 7 (fun t => t.pullPC k)
    (whenBit mask 6 (fun t => t.pullOther k)
      (whenBit mask 5 (fun t => t.pullY k)
        (whenBit mask 4 (fun t => t.pullX k)
          (whenBit mask 3 (fun t => t.pullDP k)
            (whenBit mask 2 (fun t => t.pullB k)
              (whenBit mask 1 (fun t => t.pullA k)
                (whenBit mask 0 (fun t => t.pullCC k) s)))))))

/-- The bytes a mask transfers, `n` of the stack protocol: one per bit 0 to 3, two per bit 4 to 7 (46 R500, R514). -/
def stackBytes (mask : Byte) : Nat :=
  (mask.getLsbD 0).toNat + (mask.getLsbD 1).toNat + (mask.getLsbD 2).toNat + (mask.getLsbD 3).toNat +
    2 * (mask.getLsbD 4).toNat + 2 * (mask.getLsbD 5).toNat + 2 * (mask.getLsbD 6).toNat + 2 * (mask.getLsbD 7).toNat

/-! Register codes of TFR and EXG. -/

/-- The registers a code names (30 R174). -/
inductive RegCode where
  | d
  | x
  | y
  | u
  | s
  | pc
  | a
  | b
  | cc
  | dp
  /-- Codes 6, 7 and 0xC to 0xF. -/
  | undefined
deriving DecidableEq, Repr

/-- The register of a code (30 R174). -/
def regOfCode (c : BitVec 4) : RegCode :=
  match c.toNat with
  | 0x0 => .d
  | 0x1 => .x
  | 0x2 => .y
  | 0x3 => .u
  | 0x4 => .s
  | 0x5 => .pc
  | 0x8 => .a
  | 0x9 => .b
  | 0xA => .cc
  | 0xB => .dp
  | _ => .undefined

/-- Code bit 3: 8-bit codes (30 R174). -/
def codeIs8 (c : BitVec 4) : Bool := c.getLsbD 3

/-- `RegRead(c, 16)` (30 R175). -/
def State.regRead16 (s : State) (c : BitVec 4) : Word :=
  match regOfCode c with
  | .d => s.d
  | .x => s.regs.x
  | .y => s.regs.y
  | .u => s.regs.u
  | .s => s.regs.s
  | .pc => s.regs.pc
  | .a => joinBytes 0xFF s.regs.a
  | .b => joinBytes 0xFF s.regs.b
  | .cc => joinBytes s.regs.cc s.regs.cc
  | .dp => joinBytes s.regs.dp s.regs.dp
  | .undefined => 0xFFFF

/-- `RegRead(c, 8)` (30 R175). -/
def State.regRead8 (s : State) (c : BitVec 4) : Byte :=
  match regOfCode c with
  | .d => loByte s.d
  | .x => loByte s.regs.x
  | .y => loByte s.regs.y
  | .u => loByte s.regs.u
  | .s => loByte s.regs.s
  | .pc => loByte s.regs.pc
  | .a => s.regs.a
  | .b => s.regs.b
  | .cc => s.regs.cc
  | .dp => s.regs.dp
  | .undefined => 0xFF

/-- A value as wide as a destination code: 16 bits for codes 0 to 7, 8 bits (in the low byte) for 8 to 0xF. -/
def State.regRead (s : State) (c dst : BitVec 4) : Word :=
  if codeIs8 dst then zext8 (s.regRead8 c) else s.regRead16 c

/-- `RegWrite(c, v)` (30 R176): an 8-bit register takes the low byte, an undefined code discards. -/
def State.regWrite (s : State) (c : BitVec 4) (v : Word) : State :=
  match regOfCode c with
  | .d => s.setD v
  | .x => s.setX v
  | .y => s.setY v
  | .u => s.setU v
  | .s => s.setS v
  | .pc => s.setPC v
  | .a => s.setA (loByte v)
  | .b => s.setB (loByte v)
  | .cc => s.setCC (loByte v)
  | .dp => s.setDP (loByte v)
  | .undefined => s

/-! Exceptions. -/

/-- What the entry into an exception stacks and sets (60 R606, R609, R611, 46 R508 to R510). -/
structure ExcEntry where
  /-- E as stacked. -/
  eFlag : Bool
  /-- The registers stacked on S. -/
  mask : Byte
  setI : Bool
  setF : Bool
  /-- The vector's address (60 R620). -/
  vector : Word
deriving DecidableEq, Repr

/-- NMI service (60 R606). -/
def nmiEntry : ExcEntry := { eFlag := true, mask := 0xFF, setI := true, setF := true, vector := 0xFFFC }

/-- FIRQ service (60 R609). -/
def firqEntry : ExcEntry := { eFlag := false, mask := 0x81, setI := true, setF := true, vector := 0xFFF6 }

/-- IRQ service (60 R611). -/
def irqEntry : ExcEntry := { eFlag := true, mask := 0xFF, setI := true, setF := false, vector := 0xFFF8 }

/-- SWI (46 R508). -/
def swiEntry : ExcEntry := { eFlag := true, mask := 0xFF, setI := true, setF := true, vector := 0xFFFA }

/-- SWI2 (46 R509). -/
def swi2Entry : ExcEntry := { eFlag := true, mask := 0xFF, setI := false, setF := false, vector := 0xFFF4 }

/-- SWI3 (46 R510). -/
def swi3Entry : ExcEntry := { eFlag := true, mask := 0xFF, setI := false, setF := false, vector := 0xFFF2 }

/-- `PC <- MemRead(vector, 2)` (60 R614). -/
def State.loadVector (s : State) (vector : Word) : State := (s.readWord vector).2.setPC (s.readWord vector).1

/-- The stacking of an entry: E first, then the registers on S (46 R508, 60 R606, R609, R611). -/
def State.stackFrame (s : State) (e : ExcEntry) : State := (s.setFlag .e e.eFlag).pushRegs .s e.mask

/-- The masking of an entry: sets I and F as the entry says, and no other flag. -/
def State.maskInterrupts (s : State) (e : ExcEntry) : State :=
  let s1 := if e.setI then s.setFlag .i true else s
  if e.setF then s1.setFlag .f true else s1

/-- The part of an entry after the stacking: the masks, then the vector. Alone it is the skip path of 60 R608. -/
def State.enterHandler (s : State) (e : ExcEntry) : State := (s.maskInterrupts e).loadVector e.vector

/-- Taking an exception (46 R508 to R510, 60 R606, R609, R611): E, stacking, masks, vector. -/
def State.takeException (s : State) (e : ExcEntry) : State := (s.stackFrame e).enterHandler e

/-- `RTI` (46 R511): CC, then by the pulled E the full frame or PC only. The full pull adds 9 cycles. -/
def State.returnFromException (s : State) : State :=
  let s1 := s.pullCC .s
  if s1.flag .e then (s1.pullRegs .s 0xFE).addCyc 9 else s1.pullPC .s

end Sys2Proof.Machine
end

