-- ==== Sys2Proof/Machine/Operands.lean ====
section
/-! DEFINITION. Addressing-mode resolution and the operand helpers (spec/30_encoding.md R150 to R172), written once for
every instruction (30 R160). An instruction's meaning runs with PC past its bytes (spec/10_state.md R35). -/

namespace Sys2Proof.Machine

/-- The value of a base register (30 R159). -/
def State.idxGet (s : State) : IdxReg → Word
  | .x => s.regs.x
  | .y => s.regs.y
  | .u => s.regs.u
  | .s => s.regs.s

/-- Write a base register (30 R162, R163). -/
def State.idxSet (s : State) (r : IdxReg) (v : Word) : State :=
  match r with
  | .x => s.setX v
  | .y => s.setY v
  | .u => s.setU v
  | .s => s.setS v

/-- The write-back of an auto-increment or auto-decrement, not done when the register is the target of the LEA that
resolves the operand (30 R171). -/
def State.writeBack (s : State) (lea : Option IdxReg) (r : IdxReg) (v : Word) : State :=
  if lea = some r then s else s.idxSet r v

/-- The address a sub-mode computes, before any indirection, and the state after its write-back (30 R161 to R168). -/
def State.resolveMode (s : State) (lea : Option IdxReg) (m : IdxMode) : Word × State :=
  match m with
  | .off5 r n => (s.idxGet r + sext5 n, s)
  | .postInc1 r => (s.idxGet r, s.writeBack lea r (s.idxGet r + 1))
  | .postInc2 r => (s.idxGet r, s.writeBack lea r (s.idxGet r + 2))
  | .preDec1 r => (s.idxGet r - 1, s.writeBack lea r (s.idxGet r - 1))
  | .preDec2 r => (s.idxGet r - 2, s.writeBack lea r (s.idxGet r - 2))
  | .zero r => (s.idxGet r, s)
  | .accB r => (s.idxGet r + sext8 s.regs.b, s)
  | .accA r => (s.idxGet r + sext8 s.regs.a, s)
  | .accD r => (s.idxGet r + s.d, s)
  | .off8 r n => (s.idxGet r + sext8 n, s)
  | .off16 r n => (s.idxGet r + n, s)
  | .pcr8 n => (s.regs.pc + sext8 n, s)
  | .pcr16 n => (s.regs.pc + n, s)
  | .ext n => (n, s)

/-- The cycles of a sub-mode without indirection (30 R172). -/
def modeCycles : IdxMode → Nat
  | .off5 _ _ => 1
  | .postInc1 _ => 2
  | .postInc2 _ => 3
  | .preDec1 _ => 2
  | .preDec2 _ => 3
  | .zero _ => 0
  | .accB _ => 1
  | .accA _ => 1
  | .accD _ => 4
  | .off8 _ _ => 1
  | .off16 _ _ => 4
  | .pcr8 _ => 1
  | .pcr16 _ => 5
  | .ext _ => 2

/-- The indexed cycle delta (30 R172): every indirect figure of the table is the direct one plus 3, and `[n16]` costs 5. -/
def indexedDelta (ix : Indexed) : Nat := modeCycles ix.mode + (if ix.indirect then 3 else 0)

/-- The indexed effective address: the sub-mode, then the pointer read of the indirect flag (30 R158, R169). A pair that
is no encoding (`Indexed.wf`) is resolved in the same way; the decoder never gives one (log 14). -/
def State.resolveIndexed (s : State) (lea : Option IdxReg) (ix : Indexed) : Word × State :=
  let r := (s.addCyc (indexedDelta ix)).resolveMode lea ix.mode
  if ix.indirect then r.2.readWord r.1 else r

/-- The effective address of a memory operand (30 R155, R156, R158). -/
def State.ea (s : State) (m : MemOp) : Word × State :=
  match m with
  | .dir d => (joinBytes s.regs.dp d, s)
  | .idx ix => s.resolveIndexed none ix
  | .ext w => (w, s)

/-- `Operand8()` (30 R160). -/
def State.operand8 (s : State) (o : Src8) : Byte × State :=
  match o with
  | .imm v => (v, s)
  | .mem m => (s.ea m).2.readByte (s.ea m).1

/-- `Operand16()` (30 R160). -/
def State.operand16 (s : State) (o : Src16) : Word × State :=
  match o with
  | .imm v => (v, s)
  | .mem m => (s.ea m).2.readWord (s.ea m).1

end Sys2Proof.Machine
end

