-- ==== Sys2Proof/Machine/Load.lean ====
section
/-! DEFINITION. Loads, stores, load effective address, register transfer (spec/41_load_store_transfer.md). -/

namespace Sys2Proof.Machine

/-- An 8-bit accumulator. -/
inductive Acc where
  | a
  | b
deriving DecidableEq, Repr

/-- The value of an accumulator. -/
def State.acc (s : State) : Acc → Byte
  | .a => s.regs.a
  | .b => s.regs.b

/-- Write an accumulator. -/
def State.setAcc (s : State) (k : Acc) (v : Byte) : State :=
  match k with
  | .a => s.setA v
  | .b => s.setB v

/-- A 16-bit register that loads, stores and compares name. -/
inductive Reg16 where
  | d
  | x
  | y
  | u
  | s
deriving DecidableEq, Repr

/-- The value of a 16-bit register. -/
def State.get16 (s : State) : Reg16 → Word
  | .d => s.d
  | .x => s.regs.x
  | .y => s.regs.y
  | .u => s.regs.u
  | .s => s.regs.s

/-- Write a 16-bit register. -/
def State.set16 (s : State) (k : Reg16) (v : Word) : State :=
  match k with
  | .d => s.setD v
  | .x => s.setX v
  | .y => s.setY v
  | .u => s.setU v
  | .s => s.setS v

/-- LDA, LDB (41 R300, R301). -/
def loadAcc (k : Acc) (o : Src8) (s : State) : Result :=
  let r := s.operand8 o
  .next ((r.2.setAcc k r.1).putFlags (moveFlags8 r.1))

/-- LDD, LDX, LDY, LDU, LDS (41 R302 to R306). -/
def load16 (k : Reg16) (o : Src16) (s : State) : Result :=
  let r := s.operand16 o
  .next ((r.2.set16 k r.1).putFlags (moveFlags16 r.1))

/-- STA, STB (41 R307, R308): the register as it is after the address is resolved. -/
def storeAcc (k : Acc) (m : MemOp) (s : State) : Result :=
  let r := s.ea m
  .next ((r.2.writeByte r.1 (r.2.acc k)).putFlags (moveFlags8 (r.2.acc k)))

/-- STD, STX, STY, STU, STS (41 R309 to R313): the register as it is after the address is resolved. -/
def store16 (k : Reg16) (m : MemOp) (s : State) : Result :=
  let r := s.ea m
  .next ((r.2.writeWord r.1 (r.2.get16 k)).putFlags (moveFlags16 (r.2.get16 k)))

/-- LEAX, LEAY: the address and Z (41 R314, R315). -/
def leaZ (k : IdxReg) (ix : Indexed) (s : State) : Result :=
  let r := s.resolveIndexed (some k) ix
  .next ((r.2.idxSet k r.1).putFlags { z := some (r.1 == 0) })

/-- LEAS, LEAU: the address and no flag (41 R316, R317). -/
def leaNoFlags (k : IdxReg) (ix : Indexed) (s : State) : Result :=
  let r := s.resolveIndexed (some k) ix
  .next (r.2.idxSet k r.1)

/-- TFR (41 R318). -/
def transfer (src dst : BitVec 4) (s : State) : Result := .next (s.regWrite dst (s.regRead src dst))

/-- EXG: both reads before either write (41 R319). -/
def exchange (r1 r2 : BitVec 4) (s : State) : Result :=
  .next ((s.regWrite r2 (s.regRead r1 r2)).regWrite r1 (s.regRead r2 r1))

/-- EXG, ImmediateRegs, 1E (41 R319). -/
def execExg (r1 : BitVec 4) (r2 : BitVec 4) (s : State) : Result := exchange r1 r2 s

/-- TFR, ImmediateRegs, 1F (41 R318). -/
def execTfr (src : BitVec 4) (dst : BitVec 4) (s : State) : Result := transfer src dst s

/-- LEAX, Indexed, 30 (41 R314). -/
def execLeax (ix : Indexed) (s : State) : Result := leaZ .x ix s

/-- LEAY, Indexed, 31 (41 R315). -/
def execLeay (ix : Indexed) (s : State) : Result := leaZ .y ix s

/-- LEAS, Indexed, 32 (41 R316). -/
def execLeas (ix : Indexed) (s : State) : Result := leaNoFlags .s ix s

/-- LEAU, Indexed, 33 (41 R317). -/
def execLeau (ix : Indexed) (s : State) : Result := leaNoFlags .u ix s

/-- LDA, ImmediateByte, 86 (41 R300). -/
def execLdaImm (v : Byte) (s : State) : Result := loadAcc .a (.imm v) s

/-- LDX, ImmediateWord, 8E (41 R303). -/
def execLdxImm (v : Word) (s : State) : Result := load16 .x (.imm v) s

/-- LDA, Direct, 96 (41 R300). -/
def execLdaDir (d : Byte) (s : State) : Result := loadAcc .a (.mem (.dir d)) s

/-- STA, Direct, 97 (41 R307). -/
def execStaDir (d : Byte) (s : State) : Result := storeAcc .a (.dir d) s

/-- LDX, Direct, 9E (41 R303). -/
def execLdxDir (d : Byte) (s : State) : Result := load16 .x (.mem (.dir d)) s

/-- STX, Direct, 9F (41 R310). -/
def execStxDir (d : Byte) (s : State) : Result := store16 .x (.dir d) s

/-- LDA, Indexed, A6 (41 R300). -/
def execLdaIdx (ix : Indexed) (s : State) : Result := loadAcc .a (.mem (.idx ix)) s

/-- STA, Indexed, A7 (41 R307). -/
def execStaIdx (ix : Indexed) (s : State) : Result := storeAcc .a (.idx ix) s

/-- LDX, Indexed, AE (41 R303). -/
def execLdxIdx (ix : Indexed) (s : State) : Result := load16 .x (.mem (.idx ix)) s

/-- STX, Indexed, AF (41 R310). -/
def execStxIdx (ix : Indexed) (s : State) : Result := store16 .x (.idx ix) s

/-- LDA, Extended, B6 (41 R300). -/
def execLdaExt (w : Word) (s : State) : Result := loadAcc .a (.mem (.ext w)) s

/-- STA, Extended, B7 (41 R307). -/
def execStaExt (w : Word) (s : State) : Result := storeAcc .a (.ext w) s

/-- LDX, Extended, BE (41 R303). -/
def execLdxExt (w : Word) (s : State) : Result := load16 .x (.mem (.ext w)) s

/-- STX, Extended, BF (41 R310). -/
def execStxExt (w : Word) (s : State) : Result := store16 .x (.ext w) s

/-- LDB, ImmediateByte, C6 (41 R301). -/
def execLdbImm (v : Byte) (s : State) : Result := loadAcc .b (.imm v) s

/-- LDD, ImmediateWord, CC (41 R302). -/
def execLddImm (v : Word) (s : State) : Result := load16 .d (.imm v) s

/-- LDU, ImmediateWord, CE (41 R305). -/
def execLduImm (v : Word) (s : State) : Result := load16 .u (.imm v) s

/-- LDB, Direct, D6 (41 R301). -/
def execLdbDir (d : Byte) (s : State) : Result := loadAcc .b (.mem (.dir d)) s

/-- STB, Direct, D7 (41 R308). -/
def execStbDir (d : Byte) (s : State) : Result := storeAcc .b (.dir d) s

/-- LDD, Direct, DC (41 R302). -/
def execLddDir (d : Byte) (s : State) : Result := load16 .d (.mem (.dir d)) s

/-- STD, Direct, DD (41 R309). -/
def execStdDir (d : Byte) (s : State) : Result := store16 .d (.dir d) s

/-- LDU, Direct, DE (41 R305). -/
def execLduDir (d : Byte) (s : State) : Result := load16 .u (.mem (.dir d)) s

/-- STU, Direct, DF (41 R312). -/
def execStuDir (d : Byte) (s : State) : Result := store16 .u (.dir d) s

/-- LDB, Indexed, E6 (41 R301). -/
def execLdbIdx (ix : Indexed) (s : State) : Result := loadAcc .b (.mem (.idx ix)) s

/-- STB, Indexed, E7 (41 R308). -/
def execStbIdx (ix : Indexed) (s : State) : Result := storeAcc .b (.idx ix) s

/-- LDD, Indexed, EC (41 R302). -/
def execLddIdx (ix : Indexed) (s : State) : Result := load16 .d (.mem (.idx ix)) s

/-- STD, Indexed, ED (41 R309). -/
def execStdIdx (ix : Indexed) (s : State) : Result := store16 .d (.idx ix) s

/-- LDU, Indexed, EE (41 R305). -/
def execLduIdx (ix : Indexed) (s : State) : Result := load16 .u (.mem (.idx ix)) s

/-- STU, Indexed, EF (41 R312). -/
def execStuIdx (ix : Indexed) (s : State) : Result := store16 .u (.idx ix) s

/-- LDB, Extended, F6 (41 R301). -/
def execLdbExt (w : Word) (s : State) : Result := loadAcc .b (.mem (.ext w)) s

/-- STB, Extended, F7 (41 R308). -/
def execStbExt (w : Word) (s : State) : Result := storeAcc .b (.ext w) s

/-- LDD, Extended, FC (41 R302). -/
def execLddExt (w : Word) (s : State) : Result := load16 .d (.mem (.ext w)) s

/-- STD, Extended, FD (41 R309). -/
def execStdExt (w : Word) (s : State) : Result := store16 .d (.ext w) s

/-- LDU, Extended, FE (41 R305). -/
def execLduExt (w : Word) (s : State) : Result := load16 .u (.mem (.ext w)) s

/-- STU, Extended, FF (41 R312). -/
def execStuExt (w : Word) (s : State) : Result := store16 .u (.ext w) s

/-- LDY, ImmediateWord, 10 8E (41 R304). -/
def execLdyImm (v : Word) (s : State) : Result := load16 .y (.imm v) s

/-- LDY, Direct, 10 9E (41 R304). -/
def execLdyDir (d : Byte) (s : State) : Result := load16 .y (.mem (.dir d)) s

/-- STY, Direct, 10 9F (41 R311). -/
def execStyDir (d : Byte) (s : State) : Result := store16 .y (.dir d) s

/-- LDY, Indexed, 10 AE (41 R304). -/
def execLdyIdx (ix : Indexed) (s : State) : Result := load16 .y (.mem (.idx ix)) s

/-- STY, Indexed, 10 AF (41 R311). -/
def execStyIdx (ix : Indexed) (s : State) : Result := store16 .y (.idx ix) s

/-- LDY, Extended, 10 BE (41 R304). -/
def execLdyExt (w : Word) (s : State) : Result := load16 .y (.mem (.ext w)) s

/-- STY, Extended, 10 BF (41 R311). -/
def execStyExt (w : Word) (s : State) : Result := store16 .y (.ext w) s

/-- LDS, ImmediateWord, 10 CE (41 R306). -/
def execLdsImm (v : Word) (s : State) : Result := load16 .s (.imm v) s

/-- LDS, Direct, 10 DE (41 R306). -/
def execLdsDir (d : Byte) (s : State) : Result := load16 .s (.mem (.dir d)) s

/-- STS, Direct, 10 DF (41 R313). -/
def execStsDir (d : Byte) (s : State) : Result := store16 .s (.dir d) s

/-- LDS, Indexed, 10 EE (41 R306). -/
def execLdsIdx (ix : Indexed) (s : State) : Result := load16 .s (.mem (.idx ix)) s

/-- STS, Indexed, 10 EF (41 R313). -/
def execStsIdx (ix : Indexed) (s : State) : Result := store16 .s (.idx ix) s

/-- LDS, Extended, 10 FE (41 R306). -/
def execLdsExt (w : Word) (s : State) : Result := load16 .s (.mem (.ext w)) s

/-- STS, Extended, 10 FF (41 R313). -/
def execStsExt (w : Word) (s : State) : Result := store16 .s (.ext w) s

end Sys2Proof.Machine
end

