-- ==== Sys2Proof/Machine/Arith16.lean ====
section
/-! DEFINITION. 16-bit arithmetic and compare (spec/43_arith16.md). -/

namespace Sys2Proof.Machine

/-- ADDD, SUBD (43 R380, R381). -/
def aluD (f : Word → Word → Alu16) (o : Src16) (s : State) : Result :=
  let r := s.operand16 o
  let out := f r.2.d r.1
  .next ((r.2.setD out.r).putFlags out.fl)

/-- CMPD, CMPX, CMPY, CMPU, CMPS: the flags only (43 R382 to R386). -/
def compare16 (k : Reg16) (o : Src16) (s : State) : Result :=
  let r := s.operand16 o
  .next (r.2.putFlags (sub16 (r.2.get16 k) r.1).fl)

/-- SUBD, ImmediateWord, 83 (43 R381). -/
def execSubdImm (v : Word) (s : State) : Result := aluD sub16 (.imm v) s

/-- CMPX, ImmediateWord, 8C (43 R383). -/
def execCmpxImm (v : Word) (s : State) : Result := compare16 .x (.imm v) s

/-- SUBD, Direct, 93 (43 R381). -/
def execSubdDir (d : Byte) (s : State) : Result := aluD sub16 (.mem (.dir d)) s

/-- CMPX, Direct, 9C (43 R383). -/
def execCmpxDir (d : Byte) (s : State) : Result := compare16 .x (.mem (.dir d)) s

/-- SUBD, Indexed, A3 (43 R381). -/
def execSubdIdx (ix : Indexed) (s : State) : Result := aluD sub16 (.mem (.idx ix)) s

/-- CMPX, Indexed, AC (43 R383). -/
def execCmpxIdx (ix : Indexed) (s : State) : Result := compare16 .x (.mem (.idx ix)) s

/-- SUBD, Extended, B3 (43 R381). -/
def execSubdExt (w : Word) (s : State) : Result := aluD sub16 (.mem (.ext w)) s

/-- CMPX, Extended, BC (43 R383). -/
def execCmpxExt (w : Word) (s : State) : Result := compare16 .x (.mem (.ext w)) s

/-- ADDD, ImmediateWord, C3 (43 R380). -/
def execAdddImm (v : Word) (s : State) : Result := aluD add16 (.imm v) s

/-- ADDD, Direct, D3 (43 R380). -/
def execAdddDir (d : Byte) (s : State) : Result := aluD add16 (.mem (.dir d)) s

/-- ADDD, Indexed, E3 (43 R380). -/
def execAdddIdx (ix : Indexed) (s : State) : Result := aluD add16 (.mem (.idx ix)) s

/-- ADDD, Extended, F3 (43 R380). -/
def execAdddExt (w : Word) (s : State) : Result := aluD add16 (.mem (.ext w)) s

/-- CMPD, ImmediateWord, 10 83 (43 R382). -/
def execCmpdImm (v : Word) (s : State) : Result := compare16 .d (.imm v) s

/-- CMPY, ImmediateWord, 10 8C (43 R384). -/
def execCmpyImm (v : Word) (s : State) : Result := compare16 .y (.imm v) s

/-- CMPD, Direct, 10 93 (43 R382). -/
def execCmpdDir (d : Byte) (s : State) : Result := compare16 .d (.mem (.dir d)) s

/-- CMPY, Direct, 10 9C (43 R384). -/
def execCmpyDir (d : Byte) (s : State) : Result := compare16 .y (.mem (.dir d)) s

/-- CMPD, Indexed, 10 A3 (43 R382). -/
def execCmpdIdx (ix : Indexed) (s : State) : Result := compare16 .d (.mem (.idx ix)) s

/-- CMPY, Indexed, 10 AC (43 R384). -/
def execCmpyIdx (ix : Indexed) (s : State) : Result := compare16 .y (.mem (.idx ix)) s

/-- CMPD, Extended, 10 B3 (43 R382). -/
def execCmpdExt (w : Word) (s : State) : Result := compare16 .d (.mem (.ext w)) s

/-- CMPY, Extended, 10 BC (43 R384). -/
def execCmpyExt (w : Word) (s : State) : Result := compare16 .y (.mem (.ext w)) s

/-- CMPU, ImmediateWord, 11 83 (43 R385). -/
def execCmpuImm (v : Word) (s : State) : Result := compare16 .u (.imm v) s

/-- CMPS, ImmediateWord, 11 8C (43 R386). -/
def execCmpsImm (v : Word) (s : State) : Result := compare16 .s (.imm v) s

/-- CMPU, Direct, 11 93 (43 R385). -/
def execCmpuDir (d : Byte) (s : State) : Result := compare16 .u (.mem (.dir d)) s

/-- CMPS, Direct, 11 9C (43 R386). -/
def execCmpsDir (d : Byte) (s : State) : Result := compare16 .s (.mem (.dir d)) s

/-- CMPU, Indexed, 11 A3 (43 R385). -/
def execCmpuIdx (ix : Indexed) (s : State) : Result := compare16 .u (.mem (.idx ix)) s

/-- CMPS, Indexed, 11 AC (43 R386). -/
def execCmpsIdx (ix : Indexed) (s : State) : Result := compare16 .s (.mem (.idx ix)) s

/-- CMPU, Extended, 11 B3 (43 R385). -/
def execCmpuExt (w : Word) (s : State) : Result := compare16 .u (.mem (.ext w)) s

/-- CMPS, Extended, 11 BC (43 R386). -/
def execCmpsExt (w : Word) (s : State) : Result := compare16 .s (.mem (.ext w)) s

end Sys2Proof.Machine
end

