-- ==== Sys2Proof/Machine/Arith8.lean ====
section
/-! DEFINITION. 8-bit arithmetic and logic (spec/42_arith8.md). -/

namespace Sys2Proof.Machine

/-- An 8-bit operation on an accumulator, the operand and the carry: the result and the flags (42 R340 to R347, R350,
R351, R354 to R357). -/
def aluAcc (k : Acc) (f : Byte → Byte → Bool → Alu8) (o : Src8) (s : State) : Result :=
  let r := s.operand8 o
  let out := f (r.2.acc k) r.1 (r.2.flag .c)
  .next ((r.2.setAcc k out.r).putFlags out.fl)

/-- CMP and BIT: the flags only (42 R348, R349, R352, R353). -/
def testAcc (k : Acc) (f : Byte → Byte → Alu8) (o : Src8) (s : State) : Result :=
  let r := s.operand8 o
  .next (r.2.putFlags (f (r.2.acc k) r.1).fl)

/-- DAA; V is a free value (42 R358). -/
def decimalAdjust (s : State) : Result :=
  let out := daa8 s.regs.a (s.flag .c) (s.flag .h) (Config.freeBit s.draws)
  .next ((s.countDraw.setA out.r).putFlags out.fl)

/-- MUL (42 R359). -/
def multiply (s : State) : Result :=
  let out := mul8 s.regs.a s.regs.b
  .next ((s.setD out.r).putFlags out.fl)

/-- The flags of SEX: N and Z of D, V as `SEX_V` gives (40 R215). -/
def sexFlags (policy : SexV) (d : Word) : FlagWrites :=
  { n := some d.msb, z := some (d == 0), v := if policy = .cleared then some false else none }

/-- SEX (42 R360). -/
def signExtend (s : State) : Result :=
  let s1 := s.setA (if s.regs.b.msb then 0xFF else 0x00)
  .next (s1.putFlags (sexFlags s.params.sexV s1.d))

/-- ABX: B unsigned, no flags (42 R361). -/
def addBtoX (s : State) : Result := .next (s.setX (s.regs.x + zext8 s.regs.b))

/-- DAA, Inherent, 19 (42 R358). -/
def execDaa (s : State) : Result := decimalAdjust s

/-- SEX, Inherent, 1D (42 R360). -/
def execSex (s : State) : Result := signExtend s

/-- ABX, Inherent, 3A (42 R361). -/
def execAbx (s : State) : Result := addBtoX s

/-- MUL, Inherent, 3D (42 R359). -/
def execMul (s : State) : Result := multiply s

/-- SUBA, ImmediateByte, 80 (42 R344). -/
def execSubaImm (v : Byte) (s : State) : Result := aluAcc .a (fun a m _ => sub8 a m false) (.imm v) s

/-- CMPA, ImmediateByte, 81 (42 R348). -/
def execCmpaImm (v : Byte) (s : State) : Result := testAcc .a (fun a m => sub8 a m false) (.imm v) s

/-- SBCA, ImmediateByte, 82 (42 R346). -/
def execSbcaImm (v : Byte) (s : State) : Result := aluAcc .a sub8 (.imm v) s

/-- ANDA, ImmediateByte, 84 (42 R350). -/
def execAndaImm (v : Byte) (s : State) : Result := aluAcc .a (fun a m _ => and8 a m) (.imm v) s

/-- BITA, ImmediateByte, 85 (42 R352). -/
def execBitaImm (v : Byte) (s : State) : Result := testAcc .a and8 (.imm v) s

/-- EORA, ImmediateByte, 88 (42 R356). -/
def execEoraImm (v : Byte) (s : State) : Result := aluAcc .a (fun a m _ => eor8 a m) (.imm v) s

/-- ADCA, ImmediateByte, 89 (42 R342). -/
def execAdcaImm (v : Byte) (s : State) : Result := aluAcc .a add8 (.imm v) s

/-- ORA, ImmediateByte, 8A (42 R354). -/
def execOraImm (v : Byte) (s : State) : Result := aluAcc .a (fun a m _ => or8 a m) (.imm v) s

/-- ADDA, ImmediateByte, 8B (42 R340). -/
def execAddaImm (v : Byte) (s : State) : Result := aluAcc .a (fun a m _ => add8 a m false) (.imm v) s

/-- SUBA, Direct, 90 (42 R344). -/
def execSubaDir (d : Byte) (s : State) : Result := aluAcc .a (fun a m _ => sub8 a m false) (.mem (.dir d)) s

/-- CMPA, Direct, 91 (42 R348). -/
def execCmpaDir (d : Byte) (s : State) : Result := testAcc .a (fun a m => sub8 a m false) (.mem (.dir d)) s

/-- SBCA, Direct, 92 (42 R346). -/
def execSbcaDir (d : Byte) (s : State) : Result := aluAcc .a sub8 (.mem (.dir d)) s

/-- ANDA, Direct, 94 (42 R350). -/
def execAndaDir (d : Byte) (s : State) : Result := aluAcc .a (fun a m _ => and8 a m) (.mem (.dir d)) s

/-- BITA, Direct, 95 (42 R352). -/
def execBitaDir (d : Byte) (s : State) : Result := testAcc .a and8 (.mem (.dir d)) s

/-- EORA, Direct, 98 (42 R356). -/
def execEoraDir (d : Byte) (s : State) : Result := aluAcc .a (fun a m _ => eor8 a m) (.mem (.dir d)) s

/-- ADCA, Direct, 99 (42 R342). -/
def execAdcaDir (d : Byte) (s : State) : Result := aluAcc .a add8 (.mem (.dir d)) s

/-- ORA, Direct, 9A (42 R354). -/
def execOraDir (d : Byte) (s : State) : Result := aluAcc .a (fun a m _ => or8 a m) (.mem (.dir d)) s

/-- ADDA, Direct, 9B (42 R340). -/
def execAddaDir (d : Byte) (s : State) : Result := aluAcc .a (fun a m _ => add8 a m false) (.mem (.dir d)) s

/-- SUBA, Indexed, A0 (42 R344). -/
def execSubaIdx (ix : Indexed) (s : State) : Result := aluAcc .a (fun a m _ => sub8 a m false) (.mem (.idx ix)) s

/-- CMPA, Indexed, A1 (42 R348). -/
def execCmpaIdx (ix : Indexed) (s : State) : Result := testAcc .a (fun a m => sub8 a m false) (.mem (.idx ix)) s

/-- SBCA, Indexed, A2 (42 R346). -/
def execSbcaIdx (ix : Indexed) (s : State) : Result := aluAcc .a sub8 (.mem (.idx ix)) s

/-- ANDA, Indexed, A4 (42 R350). -/
def execAndaIdx (ix : Indexed) (s : State) : Result := aluAcc .a (fun a m _ => and8 a m) (.mem (.idx ix)) s

/-- BITA, Indexed, A5 (42 R352). -/
def execBitaIdx (ix : Indexed) (s : State) : Result := testAcc .a and8 (.mem (.idx ix)) s

/-- EORA, Indexed, A8 (42 R356). -/
def execEoraIdx (ix : Indexed) (s : State) : Result := aluAcc .a (fun a m _ => eor8 a m) (.mem (.idx ix)) s

/-- ADCA, Indexed, A9 (42 R342). -/
def execAdcaIdx (ix : Indexed) (s : State) : Result := aluAcc .a add8 (.mem (.idx ix)) s

/-- ORA, Indexed, AA (42 R354). -/
def execOraIdx (ix : Indexed) (s : State) : Result := aluAcc .a (fun a m _ => or8 a m) (.mem (.idx ix)) s

/-- ADDA, Indexed, AB (42 R340). -/
def execAddaIdx (ix : Indexed) (s : State) : Result := aluAcc .a (fun a m _ => add8 a m false) (.mem (.idx ix)) s

/-- SUBA, Extended, B0 (42 R344). -/
def execSubaExt (w : Word) (s : State) : Result := aluAcc .a (fun a m _ => sub8 a m false) (.mem (.ext w)) s

/-- CMPA, Extended, B1 (42 R348). -/
def execCmpaExt (w : Word) (s : State) : Result := testAcc .a (fun a m => sub8 a m false) (.mem (.ext w)) s

/-- SBCA, Extended, B2 (42 R346). -/
def execSbcaExt (w : Word) (s : State) : Result := aluAcc .a sub8 (.mem (.ext w)) s

/-- ANDA, Extended, B4 (42 R350). -/
def execAndaExt (w : Word) (s : State) : Result := aluAcc .a (fun a m _ => and8 a m) (.mem (.ext w)) s

/-- BITA, Extended, B5 (42 R352). -/
def execBitaExt (w : Word) (s : State) : Result := testAcc .a and8 (.mem (.ext w)) s

/-- EORA, Extended, B8 (42 R356). -/
def execEoraExt (w : Word) (s : State) : Result := aluAcc .a (fun a m _ => eor8 a m) (.mem (.ext w)) s

/-- ADCA, Extended, B9 (42 R342). -/
def execAdcaExt (w : Word) (s : State) : Result := aluAcc .a add8 (.mem (.ext w)) s

/-- ORA, Extended, BA (42 R354). -/
def execOraExt (w : Word) (s : State) : Result := aluAcc .a (fun a m _ => or8 a m) (.mem (.ext w)) s

/-- ADDA, Extended, BB (42 R340). -/
def execAddaExt (w : Word) (s : State) : Result := aluAcc .a (fun a m _ => add8 a m false) (.mem (.ext w)) s

/-- SUBB, ImmediateByte, C0 (42 R345). -/
def execSubbImm (v : Byte) (s : State) : Result := aluAcc .b (fun a m _ => sub8 a m false) (.imm v) s

/-- CMPB, ImmediateByte, C1 (42 R349). -/
def execCmpbImm (v : Byte) (s : State) : Result := testAcc .b (fun a m => sub8 a m false) (.imm v) s

/-- SBCB, ImmediateByte, C2 (42 R347). -/
def execSbcbImm (v : Byte) (s : State) : Result := aluAcc .b sub8 (.imm v) s

/-- ANDB, ImmediateByte, C4 (42 R351). -/
def execAndbImm (v : Byte) (s : State) : Result := aluAcc .b (fun a m _ => and8 a m) (.imm v) s

/-- BITB, ImmediateByte, C5 (42 R353). -/
def execBitbImm (v : Byte) (s : State) : Result := testAcc .b and8 (.imm v) s

/-- EORB, ImmediateByte, C8 (42 R357). -/
def execEorbImm (v : Byte) (s : State) : Result := aluAcc .b (fun a m _ => eor8 a m) (.imm v) s

/-- ADCB, ImmediateByte, C9 (42 R343). -/
def execAdcbImm (v : Byte) (s : State) : Result := aluAcc .b add8 (.imm v) s

/-- ORB, ImmediateByte, CA (42 R355). -/
def execOrbImm (v : Byte) (s : State) : Result := aluAcc .b (fun a m _ => or8 a m) (.imm v) s

/-- ADDB, ImmediateByte, CB (42 R341). -/
def execAddbImm (v : Byte) (s : State) : Result := aluAcc .b (fun a m _ => add8 a m false) (.imm v) s

/-- SUBB, Direct, D0 (42 R345). -/
def execSubbDir (d : Byte) (s : State) : Result := aluAcc .b (fun a m _ => sub8 a m false) (.mem (.dir d)) s

/-- CMPB, Direct, D1 (42 R349). -/
def execCmpbDir (d : Byte) (s : State) : Result := testAcc .b (fun a m => sub8 a m false) (.mem (.dir d)) s

/-- SBCB, Direct, D2 (42 R347). -/
def execSbcbDir (d : Byte) (s : State) : Result := aluAcc .b sub8 (.mem (.dir d)) s

/-- ANDB, Direct, D4 (42 R351). -/
def execAndbDir (d : Byte) (s : State) : Result := aluAcc .b (fun a m _ => and8 a m) (.mem (.dir d)) s

/-- BITB, Direct, D5 (42 R353). -/
def execBitbDir (d : Byte) (s : State) : Result := testAcc .b and8 (.mem (.dir d)) s

/-- EORB, Direct, D8 (42 R357). -/
def execEorbDir (d : Byte) (s : State) : Result := aluAcc .b (fun a m _ => eor8 a m) (.mem (.dir d)) s

/-- ADCB, Direct, D9 (42 R343). -/
def execAdcbDir (d : Byte) (s : State) : Result := aluAcc .b add8 (.mem (.dir d)) s

/-- ORB, Direct, DA (42 R355). -/
def execOrbDir (d : Byte) (s : State) : Result := aluAcc .b (fun a m _ => or8 a m) (.mem (.dir d)) s

/-- ADDB, Direct, DB (42 R341). -/
def execAddbDir (d : Byte) (s : State) : Result := aluAcc .b (fun a m _ => add8 a m false) (.mem (.dir d)) s

/-- SUBB, Indexed, E0 (42 R345). -/
def execSubbIdx (ix : Indexed) (s : State) : Result := aluAcc .b (fun a m _ => sub8 a m false) (.mem (.idx ix)) s

/-- CMPB, Indexed, E1 (42 R349). -/
def execCmpbIdx (ix : Indexed) (s : State) : Result := testAcc .b (fun a m => sub8 a m false) (.mem (.idx ix)) s

/-- SBCB, Indexed, E2 (42 R347). -/
def execSbcbIdx (ix : Indexed) (s : State) : Result := aluAcc .b sub8 (.mem (.idx ix)) s

/-- ANDB, Indexed, E4 (42 R351). -/
def execAndbIdx (ix : Indexed) (s : State) : Result := aluAcc .b (fun a m _ => and8 a m) (.mem (.idx ix)) s

/-- BITB, Indexed, E5 (42 R353). -/
def execBitbIdx (ix : Indexed) (s : State) : Result := testAcc .b and8 (.mem (.idx ix)) s

/-- EORB, Indexed, E8 (42 R357). -/
def execEorbIdx (ix : Indexed) (s : State) : Result := aluAcc .b (fun a m _ => eor8 a m) (.mem (.idx ix)) s

/-- ADCB, Indexed, E9 (42 R343). -/
def execAdcbIdx (ix : Indexed) (s : State) : Result := aluAcc .b add8 (.mem (.idx ix)) s

/-- ORB, Indexed, EA (42 R355). -/
def execOrbIdx (ix : Indexed) (s : State) : Result := aluAcc .b (fun a m _ => or8 a m) (.mem (.idx ix)) s

/-- ADDB, Indexed, EB (42 R341). -/
def execAddbIdx (ix : Indexed) (s : State) : Result := aluAcc .b (fun a m _ => add8 a m false) (.mem (.idx ix)) s

/-- SUBB, Extended, F0 (42 R345). -/
def execSubbExt (w : Word) (s : State) : Result := aluAcc .b (fun a m _ => sub8 a m false) (.mem (.ext w)) s

/-- CMPB, Extended, F1 (42 R349). -/
def execCmpbExt (w : Word) (s : State) : Result := testAcc .b (fun a m => sub8 a m false) (.mem (.ext w)) s

/-- SBCB, Extended, F2 (42 R347). -/
def execSbcbExt (w : Word) (s : State) : Result := aluAcc .b sub8 (.mem (.ext w)) s

/-- ANDB, Extended, F4 (42 R351). -/
def execAndbExt (w : Word) (s : State) : Result := aluAcc .b (fun a m _ => and8 a m) (.mem (.ext w)) s

/-- BITB, Extended, F5 (42 R353). -/
def execBitbExt (w : Word) (s : State) : Result := testAcc .b and8 (.mem (.ext w)) s

/-- EORB, Extended, F8 (42 R357). -/
def execEorbExt (w : Word) (s : State) : Result := aluAcc .b (fun a m _ => eor8 a m) (.mem (.ext w)) s

/-- ADCB, Extended, F9 (42 R343). -/
def execAdcbExt (w : Word) (s : State) : Result := aluAcc .b add8 (.mem (.ext w)) s

/-- ORB, Extended, FA (42 R355). -/
def execOrbExt (w : Word) (s : State) : Result := aluAcc .b (fun a m _ => or8 a m) (.mem (.ext w)) s

/-- ADDB, Extended, FB (42 R341). -/
def execAddbExt (w : Word) (s : State) : Result := aluAcc .b (fun a m _ => add8 a m false) (.mem (.ext w)) s

end Sys2Proof.Machine
end

