-- ==== Sys2Proof/Machine/Control.lean ====
section
/-! DEFINITION. Branches, jumps and subroutine calls (spec/45_control.md). -/

namespace Sys2Proof.Machine

/-- The branch conditions (45 R450). -/
inductive Cond where
  | always
  | never
  | hi
  | ls
  | cc
  | cs
  | ne
  | eq
  | vc
  | vs
  | pl
  | mi
  | ge
  | lt
  | gt
  | le
deriving DecidableEq, Repr

/-- Whether a condition holds of CC (45 R450). -/
def condHolds (k : Cond) (cc : Byte) : Bool :=
  let c := ccGet cc .c
  let z := ccGet cc .z
  let n := ccGet cc .n
  let v := ccGet cc .v
  match k with
  | .always => true
  | .never => false
  | .hi => !c && !z
  | .ls => c || z
  | .cc => !c
  | .cs => c
  | .ne => !z
  | .eq => z
  | .vc => !v
  | .vs => v
  | .pl => !n
  | .mi => n
  | .ge => !(n ^^ v)
  | .lt => n ^^ v
  | .gt => !z && !(n ^^ v)
  | .le => z || (n ^^ v)

/-- A short branch, and LBRA: the target is PC plus the offset (45 R451). -/
def branch (k : Cond) (offset : Word) (s : State) : Result :=
  .next (if condHolds k s.regs.cc then s.setPC (s.regs.pc + offset) else s)

/-- A page-2 long branch: one more cycle when taken (45 R451). -/
def longBranch (k : Cond) (offset : Word) (s : State) : Result :=
  .next (if condHolds k s.regs.cc then (s.setPC (s.regs.pc + offset)).addCyc 1 else s)

/-- BSR, LBSR, JSR: push the return address, go to the target (45 R484, R485, R487). -/
def call (target : Word) (s : State) : Result := .next ((s.push16 .s s.regs.pc).setPC target)

/-- JMP (45 R486). -/
def jump (m : MemOp) (s : State) : Result :=
  let r := s.ea m
  .next (r.2.setPC r.1)

/-- JSR: the address is resolved before the push (45 R487). -/
def jumpSubroutine (m : MemOp) (s : State) : Result :=
  let r := s.ea m
  call r.1 r.2

/-- JMP, Direct, 0E (45 R486). -/
def execJmpDir (d : Byte) (s : State) : Result := jump (.dir d) s

/-- NOP, Inherent, 12 (45 R489). -/
def execNop (s : State) : Result := .next s

/-- LBRA, RelativeWord, 16 (45 R468). -/
def execLbra (r : Word) (s : State) : Result := branch .always r s

/-- LBSR, RelativeWord, 17 (45 R485). -/
def execLbsr (r : Word) (s : State) : Result := call (s.regs.pc + r) s

/-- BRA, RelativeByte, 20 (45 R452). -/
def execBra (r : Byte) (s : State) : Result := branch .always (sext8 r) s

/-- BRN, RelativeByte, 21 (45 R453). -/
def execBrn (r : Byte) (s : State) : Result := branch .never (sext8 r) s

/-- BHI, RelativeByte, 22 (45 R454). -/
def execBhi (r : Byte) (s : State) : Result := branch .hi (sext8 r) s

/-- BLS, RelativeByte, 23 (45 R455). -/
def execBls (r : Byte) (s : State) : Result := branch .ls (sext8 r) s

/-- BCC, RelativeByte, 24 (45 R456). -/
def execBcc (r : Byte) (s : State) : Result := branch .cc (sext8 r) s

/-- BCS, RelativeByte, 25 (45 R457). -/
def execBcs (r : Byte) (s : State) : Result := branch .cs (sext8 r) s

/-- BNE, RelativeByte, 26 (45 R458). -/
def execBne (r : Byte) (s : State) : Result := branch .ne (sext8 r) s

/-- BEQ, RelativeByte, 27 (45 R459). -/
def execBeq (r : Byte) (s : State) : Result := branch .eq (sext8 r) s

/-- BVC, RelativeByte, 28 (45 R460). -/
def execBvc (r : Byte) (s : State) : Result := branch .vc (sext8 r) s

/-- BVS, RelativeByte, 29 (45 R461). -/
def execBvs (r : Byte) (s : State) : Result := branch .vs (sext8 r) s

/-- BPL, RelativeByte, 2A (45 R462). -/
def execBpl (r : Byte) (s : State) : Result := branch .pl (sext8 r) s

/-- BMI, RelativeByte, 2B (45 R463). -/
def execBmi (r : Byte) (s : State) : Result := branch .mi (sext8 r) s

/-- BGE, RelativeByte, 2C (45 R464). -/
def execBge (r : Byte) (s : State) : Result := branch .ge (sext8 r) s

/-- BLT, RelativeByte, 2D (45 R465). -/
def execBlt (r : Byte) (s : State) : Result := branch .lt (sext8 r) s

/-- BGT, RelativeByte, 2E (45 R466). -/
def execBgt (r : Byte) (s : State) : Result := branch .gt (sext8 r) s

/-- BLE, RelativeByte, 2F (45 R467). -/
def execBle (r : Byte) (s : State) : Result := branch .le (sext8 r) s

/-- RTS, Inherent, 39 (45 R488). -/
def execRts (s : State) : Result := .next (s.pullPC .s)

/-- JMP, Indexed, 6E (45 R486). -/
def execJmpIdx (ix : Indexed) (s : State) : Result := jump (.idx ix) s

/-- JMP, Extended, 7E (45 R486). -/
def execJmpExt (w : Word) (s : State) : Result := jump (.ext w) s

/-- BSR, RelativeByte, 8D (45 R484). -/
def execBsr (r : Byte) (s : State) : Result := call (s.regs.pc + sext8 r) s

/-- JSR, Direct, 9D (45 R487). -/
def execJsrDir (d : Byte) (s : State) : Result := jumpSubroutine (.dir d) s

/-- JSR, Indexed, AD (45 R487). -/
def execJsrIdx (ix : Indexed) (s : State) : Result := jumpSubroutine (.idx ix) s

/-- JSR, Extended, BD (45 R487). -/
def execJsrExt (w : Word) (s : State) : Result := jumpSubroutine (.ext w) s

/-- LBRN, RelativeWord, 10 21 (45 R469). -/
def execLbrn (r : Word) (s : State) : Result := longBranch .never r s

/-- LBHI, RelativeWord, 10 22 (45 R470). -/
def execLbhi (r : Word) (s : State) : Result := longBranch .hi r s

/-- LBLS, RelativeWord, 10 23 (45 R471). -/
def execLbls (r : Word) (s : State) : Result := longBranch .ls r s

/-- LBCC, RelativeWord, 10 24 (45 R472). -/
def execLbcc (r : Word) (s : State) : Result := longBranch .cc r s

/-- LBCS, RelativeWord, 10 25 (45 R473). -/
def execLbcs (r : Word) (s : State) : Result := longBranch .cs r s

/-- LBNE, RelativeWord, 10 26 (45 R474). -/
def execLbne (r : Word) (s : State) : Result := longBranch .ne r s

/-- LBEQ, RelativeWord, 10 27 (45 R475). -/
def execLbeq (r : Word) (s : State) : Result := longBranch .eq r s

/-- LBVC, RelativeWord, 10 28 (45 R476). -/
def execLbvc (r : Word) (s : State) : Result := longBranch .vc r s

/-- LBVS, RelativeWord, 10 29 (45 R477). -/
def execLbvs (r : Word) (s : State) : Result := longBranch .vs r s

/-- LBPL, RelativeWord, 10 2A (45 R478). -/
def execLbpl (r : Word) (s : State) : Result := longBranch .pl r s

/-- LBMI, RelativeWord, 10 2B (45 R479). -/
def execLbmi (r : Word) (s : State) : Result := longBranch .mi r s

/-- LBGE, RelativeWord, 10 2C (45 R480). -/
def execLbge (r : Word) (s : State) : Result := longBranch .ge r s

/-- LBLT, RelativeWord, 10 2D (45 R481). -/
def execLblt (r : Word) (s : State) : Result := longBranch .lt r s

/-- LBGT, RelativeWord, 10 2E (45 R482). -/
def execLbgt (r : Word) (s : State) : Result := longBranch .gt r s

/-- LBLE, RelativeWord, 10 2F (45 R483). -/
def execLble (r : Word) (s : State) : Result := longBranch .le r s

end Sys2Proof.Machine
end

