-- ==== Sys2Proof/Machine/StackSystem.lean ====
section
/-! DEFINITION. Stack transfer, condition-code and system instructions (spec/46_stack_system.md). -/

namespace Sys2Proof.Machine

/-- PSHS, PSHU (46 R502, R504). -/
def pushMask (k : Stack) (mask : Byte) (s : State) : Result := .next ((s.pushRegs k mask).addCyc (stackBytes mask))

/-- PULS, PULU (46 R503, R505). -/
def pullMask (k : Stack) (mask : Byte) (s : State) : Result := .next ((s.pullRegs k mask).addCyc (stackBytes mask))

/-- CWAI: mask CC, set E, stack everything, wait (46 R512). -/
def waitForInterrupt (m : Byte) (s : State) : Result :=
  .next ((((s.setCC (s.regs.cc &&& m)).setFlag .e true).pushRegs .s 0xFF).setHalt .cwaiWait)

/-- SYNC, Inherent, 13 (46 R513). -/
def execSync (s : State) : Result := .next (s.setHalt .syncWait)

/-- ORCC, ImmediateByte, 1A (46 R507). -/
def execOrcc (v : Byte) (s : State) : Result := .next (s.setCC (s.regs.cc ||| v))

/-- ANDCC, ImmediateByte, 1C (46 R506). -/
def execAndcc (v : Byte) (s : State) : Result := .next (s.setCC (s.regs.cc &&& v))

/-- PSHS, ImmediateStackMask, 34 (46 R502). -/
def execPshs (mask : Byte) (s : State) : Result := pushMask .s mask s

/-- PULS, ImmediateStackMask, 35 (46 R503). -/
def execPuls (mask : Byte) (s : State) : Result := pullMask .s mask s

/-- PSHU, ImmediateStackMask, 36 (46 R504). -/
def execPshu (mask : Byte) (s : State) : Result := pushMask .u mask s

/-- PULU, ImmediateStackMask, 37 (46 R505). -/
def execPulu (mask : Byte) (s : State) : Result := pullMask .u mask s

/-- RTI, Inherent, 3B (46 R511). -/
def execRti (s : State) : Result := .next s.returnFromException

/-- CWAI, ImmediateByte, 3C (46 R512). -/
def execCwai (v : Byte) (s : State) : Result := waitForInterrupt v s

/-- SWI, Inherent, 3F (46 R508). -/
def execSwi (s : State) : Result := .next (s.takeException swiEntry)

/-- SWI2, Inherent, 10 3F (46 R509). -/
def execSwi2 (s : State) : Result := .next (s.takeException swi2Entry)

/-- SWI3, Inherent, 11 3F (46 R510). -/
def execSwi3 (s : State) : Result := .next (s.takeException swi3Entry)

end Sys2Proof.Machine
end

