-- ==== Sys2Proof/Machine/Unary.lean ====
section
/-! DEFINITION. Unary, shift and rotate instructions (spec/44_unary_shift.md). -/

namespace Sys2Proof.Machine

/-- A memory form: one read, then one write to the same address (44, 30 R179). CLR reads and discards. -/
def modifyMem (f : Byte → Bool → Alu8) (m : MemOp) (s : State) : Result :=
  let r := s.ea m
  let v := r.2.readByte r.1
  let out := f v.1 (v.2.flag .c)
  .next ((v.2.writeByte r.1 out.r).putFlags out.fl)

/-- An accumulator form (44). -/
def modifyAcc (k : Acc) (f : Byte → Bool → Alu8) (s : State) : Result :=
  let out := f (s.acc k) (s.flag .c)
  .next ((s.setAcc k out.r).putFlags out.fl)

/-- TST on memory: the read only (44 R427). -/
def testMem (m : MemOp) (s : State) : Result :=
  let r := s.ea m
  let v := r.2.readByte r.1
  .next (v.2.putFlags (moveFlags8 v.1))

/-- TSTA, TSTB (44 R428, R429). -/
def testAccInherent (k : Acc) (s : State) : Result := .next (s.putFlags (moveFlags8 (s.acc k)))

/-- NEG, Direct, 00 (44 R400). -/
def execNegDir (d : Byte) (s : State) : Result := modifyMem (fun v _ => neg8 v) (.dir d) s

/-- COM, Direct, 03 (44 R403). -/
def execComDir (d : Byte) (s : State) : Result := modifyMem (fun v _ => com8 v) (.dir d) s

/-- LSR, Direct, 04 (44 R406). -/
def execLsrDir (d : Byte) (s : State) : Result := modifyMem (fun v _ => lsr8 v) (.dir d) s

/-- ROR, Direct, 06 (44 R409). -/
def execRorDir (d : Byte) (s : State) : Result := modifyMem ror8 (.dir d) s

/-- ASR, Direct, 07 (44 R412). -/
def execAsrDir (d : Byte) (s : State) : Result := modifyMem (fun v _ => asr8 v) (.dir d) s

/-- ASL, Direct, 08 (44 R415). -/
def execAslDir (d : Byte) (s : State) : Result := modifyMem (fun v _ => asl8 v) (.dir d) s

/-- ROL, Direct, 09 (44 R418). -/
def execRolDir (d : Byte) (s : State) : Result := modifyMem rol8 (.dir d) s

/-- DEC, Direct, 0A (44 R421). -/
def execDecDir (d : Byte) (s : State) : Result := modifyMem (fun v _ => dec8 v) (.dir d) s

/-- INC, Direct, 0C (44 R424). -/
def execIncDir (d : Byte) (s : State) : Result := modifyMem (fun v _ => inc8 v) (.dir d) s

/-- TST, Direct, 0D (44 R427). -/
def execTstDir (d : Byte) (s : State) : Result := testMem (.dir d) s

/-- CLR, Direct, 0F (44 R430). -/
def execClrDir (d : Byte) (s : State) : Result := modifyMem (fun _ _ => clr8) (.dir d) s

/-- NEGA, Inherent, 40 (44 R401). -/
def execNega (s : State) : Result := modifyAcc .a (fun v _ => neg8 v) s

/-- COMA, Inherent, 43 (44 R404). -/
def execComa (s : State) : Result := modifyAcc .a (fun v _ => com8 v) s

/-- LSRA, Inherent, 44 (44 R407). -/
def execLsra (s : State) : Result := modifyAcc .a (fun v _ => lsr8 v) s

/-- RORA, Inherent, 46 (44 R410). -/
def execRora (s : State) : Result := modifyAcc .a ror8 s

/-- ASRA, Inherent, 47 (44 R413). -/
def execAsra (s : State) : Result := modifyAcc .a (fun v _ => asr8 v) s

/-- ASLA, Inherent, 48 (44 R416). -/
def execAsla (s : State) : Result := modifyAcc .a (fun v _ => asl8 v) s

/-- ROLA, Inherent, 49 (44 R419). -/
def execRola (s : State) : Result := modifyAcc .a rol8 s

/-- DECA, Inherent, 4A (44 R422). -/
def execDeca (s : State) : Result := modifyAcc .a (fun v _ => dec8 v) s

/-- INCA, Inherent, 4C (44 R425). -/
def execInca (s : State) : Result := modifyAcc .a (fun v _ => inc8 v) s

/-- TSTA, Inherent, 4D (44 R428). -/
def execTsta (s : State) : Result := testAccInherent .a s

/-- CLRA, Inherent, 4F (44 R431). -/
def execClra (s : State) : Result := modifyAcc .a (fun _ _ => clr8) s

/-- NEGB, Inherent, 50 (44 R402). -/
def execNegb (s : State) : Result := modifyAcc .b (fun v _ => neg8 v) s

/-- COMB, Inherent, 53 (44 R405). -/
def execComb (s : State) : Result := modifyAcc .b (fun v _ => com8 v) s

/-- LSRB, Inherent, 54 (44 R408). -/
def execLsrb (s : State) : Result := modifyAcc .b (fun v _ => lsr8 v) s

/-- RORB, Inherent, 56 (44 R411). -/
def execRorb (s : State) : Result := modifyAcc .b ror8 s

/-- ASRB, Inherent, 57 (44 R414). -/
def execAsrb (s : State) : Result := modifyAcc .b (fun v _ => asr8 v) s

/-- ASLB, Inherent, 58 (44 R417). -/
def execAslb (s : State) : Result := modifyAcc .b (fun v _ => asl8 v) s

/-- ROLB, Inherent, 59 (44 R420). -/
def execRolb (s : State) : Result := modifyAcc .b rol8 s

/-- DECB, Inherent, 5A (44 R423). -/
def execDecb (s : State) : Result := modifyAcc .b (fun v _ => dec8 v) s

/-- INCB, Inherent, 5C (44 R426). -/
def execIncb (s : State) : Result := modifyAcc .b (fun v _ => inc8 v) s

/-- TSTB, Inherent, 5D (44 R429). -/
def execTstb (s : State) : Result := testAccInherent .b s

/-- CLRB, Inherent, 5F (44 R432). -/
def execClrb (s : State) : Result := modifyAcc .b (fun _ _ => clr8) s

/-- NEG, Indexed, 60 (44 R400). -/
def execNegIdx (ix : Indexed) (s : State) : Result := modifyMem (fun v _ => neg8 v) (.idx ix) s

/-- COM, Indexed, 63 (44 R403). -/
def execComIdx (ix : Indexed) (s : State) : Result := modifyMem (fun v _ => com8 v) (.idx ix) s

/-- LSR, Indexed, 64 (44 R406). -/
def execLsrIdx (ix : Indexed) (s : State) : Result := modifyMem (fun v _ => lsr8 v) (.idx ix) s

/-- ROR, Indexed, 66 (44 R409). -/
def execRorIdx (ix : Indexed) (s : State) : Result := modifyMem ror8 (.idx ix) s

/-- ASR, Indexed, 67 (44 R412). -/
def execAsrIdx (ix : Indexed) (s : State) : Result := modifyMem (fun v _ => asr8 v) (.idx ix) s

/-- ASL, Indexed, 68 (44 R415). -/
def execAslIdx (ix : Indexed) (s : State) : Result := modifyMem (fun v _ => asl8 v) (.idx ix) s

/-- ROL, Indexed, 69 (44 R418). -/
def execRolIdx (ix : Indexed) (s : State) : Result := modifyMem rol8 (.idx ix) s

/-- DEC, Indexed, 6A (44 R421). -/
def execDecIdx (ix : Indexed) (s : State) : Result := modifyMem (fun v _ => dec8 v) (.idx ix) s

/-- INC, Indexed, 6C (44 R424). -/
def execIncIdx (ix : Indexed) (s : State) : Result := modifyMem (fun v _ => inc8 v) (.idx ix) s

/-- TST, Indexed, 6D (44 R427). -/
def execTstIdx (ix : Indexed) (s : State) : Result := testMem (.idx ix) s

/-- CLR, Indexed, 6F (44 R430). -/
def execClrIdx (ix : Indexed) (s : State) : Result := modifyMem (fun _ _ => clr8) (.idx ix) s

/-- NEG, Extended, 70 (44 R400). -/
def execNegExt (w : Word) (s : State) : Result := modifyMem (fun v _ => neg8 v) (.ext w) s

/-- COM, Extended, 73 (44 R403). -/
def execComExt (w : Word) (s : State) : Result := modifyMem (fun v _ => com8 v) (.ext w) s

/-- LSR, Extended, 74 (44 R406). -/
def execLsrExt (w : Word) (s : State) : Result := modifyMem (fun v _ => lsr8 v) (.ext w) s

/-- ROR, Extended, 76 (44 R409). -/
def execRorExt (w : Word) (s : State) : Result := modifyMem ror8 (.ext w) s

/-- ASR, Extended, 77 (44 R412). -/
def execAsrExt (w : Word) (s : State) : Result := modifyMem (fun v _ => asr8 v) (.ext w) s

/-- ASL, Extended, 78 (44 R415). -/
def execAslExt (w : Word) (s : State) : Result := modifyMem (fun v _ => asl8 v) (.ext w) s

/-- ROL, Extended, 79 (44 R418). -/
def execRolExt (w : Word) (s : State) : Result := modifyMem rol8 (.ext w) s

/-- DEC, Extended, 7A (44 R421). -/
def execDecExt (w : Word) (s : State) : Result := modifyMem (fun v _ => dec8 v) (.ext w) s

/-- INC, Extended, 7C (44 R424). -/
def execIncExt (w : Word) (s : State) : Result := modifyMem (fun v _ => inc8 v) (.ext w) s

/-- TST, Extended, 7D (44 R427). -/
def execTstExt (w : Word) (s : State) : Result := testMem (.ext w) s

/-- CLR, Extended, 7F (44 R430). -/
def execClrExt (w : Word) (s : State) : Result := modifyMem (fun _ _ => clr8) (.ext w) s

end Sys2Proof.Machine
end

