-- ==== Sys2Proof/Machine/Dispatch.lean ====
section
/-! DEFINITION. The meaning of every instruction, one arm per row of spec/opcode_table.json. -/

namespace Sys2Proof.Machine

-- The effect of an instruction whose bytes have been fetched: PC is past them (spec/10_state.md R35).
def exec (i : Instr) (s : State) : Host.Outcome State Fault Refusal :=
  match i with
  | .negDir d => Sys2Proof.Machine.execNegDir d s
  | .comDir d => Sys2Proof.Machine.execComDir d s
  | .lsrDir d => Sys2Proof.Machine.execLsrDir d s
  | .rorDir d => Sys2Proof.Machine.execRorDir d s
  | .asrDir d => Sys2Proof.Machine.execAsrDir d s
  | .aslDir d => Sys2Proof.Machine.execAslDir d s
  | .rolDir d => Sys2Proof.Machine.execRolDir d s
  | .decDir d => Sys2Proof.Machine.execDecDir d s
  | .incDir d => Sys2Proof.Machine.execIncDir d s
  | .tstDir d => Sys2Proof.Machine.execTstDir d s
  | .jmpDir d => Sys2Proof.Machine.execJmpDir d s
  | .clrDir d => Sys2Proof.Machine.execClrDir d s
  | .lbra r => Sys2Proof.Machine.execLbra r s
  | .lbsr r => Sys2Proof.Machine.execLbsr r s
  | .orcc v => Sys2Proof.Machine.execOrcc v s
  | .andcc v => Sys2Proof.Machine.execAndcc v s
  | .exg r1 r2 => Sys2Proof.Machine.execExg r1 r2 s
  | .tfr src dst => Sys2Proof.Machine.execTfr src dst s
  | .bra r => Sys2Proof.Machine.execBra r s
  | .brn r => Sys2Proof.Machine.execBrn r s
  | .bhi r => Sys2Proof.Machine.execBhi r s
  | .bls r => Sys2Proof.Machine.execBls r s
  | .bcc r => Sys2Proof.Machine.execBcc r s
  | .bcs r => Sys2Proof.Machine.execBcs r s
  | .bne r => Sys2Proof.Machine.execBne r s
  | .beq r => Sys2Proof.Machine.execBeq r s
  | .bvc r => Sys2Proof.Machine.execBvc r s
  | .bvs r => Sys2Proof.Machine.execBvs r s
  | .bpl r => Sys2Proof.Machine.execBpl r s
  | .bmi r => Sys2Proof.Machine.execBmi r s
  | .bge r => Sys2Proof.Machine.execBge r s
  | .blt r => Sys2Proof.Machine.execBlt r s
  | .bgt r => Sys2Proof.Machine.execBgt r s
  | .ble r => Sys2Proof.Machine.execBle r s
  | .leax ix => Sys2Proof.Machine.execLeax ix s
  | .leay ix => Sys2Proof.Machine.execLeay ix s
  | .leas ix => Sys2Proof.Machine.execLeas ix s
  | .leau ix => Sys2Proof.Machine.execLeau ix s
  | .pshs mask => Sys2Proof.Machine.execPshs mask s
  | .puls mask => Sys2Proof.Machine.execPuls mask s
  | .pshu mask => Sys2Proof.Machine.execPshu mask s
  | .pulu mask => Sys2Proof.Machine.execPulu mask s
  | .cwai v => Sys2Proof.Machine.execCwai v s
  | .negIdx ix => Sys2Proof.Machine.execNegIdx ix s
  | .comIdx ix => Sys2Proof.Machine.execComIdx ix s
  | .lsrIdx ix => Sys2Proof.Machine.execLsrIdx ix s
  | .rorIdx ix => Sys2Proof.Machine.execRorIdx ix s
  | .asrIdx ix => Sys2Proof.Machine.execAsrIdx ix s
  | .aslIdx ix => Sys2Proof.Machine.execAslIdx ix s
  | .rolIdx ix => Sys2Proof.Machine.execRolIdx ix s
  | .decIdx ix => Sys2Proof.Machine.execDecIdx ix s
  | .incIdx ix => Sys2Proof.Machine.execIncIdx ix s
  | .tstIdx ix => Sys2Proof.Machine.execTstIdx ix s
  | .jmpIdx ix => Sys2Proof.Machine.execJmpIdx ix s
  | .clrIdx ix => Sys2Proof.Machine.execClrIdx ix s
  | .negExt w => Sys2Proof.Machine.execNegExt w s
  | .comExt w => Sys2Proof.Machine.execComExt w s
  | .lsrExt w => Sys2Proof.Machine.execLsrExt w s
  | .rorExt w => Sys2Proof.Machine.execRorExt w s
  | .asrExt w => Sys2Proof.Machine.execAsrExt w s
  | .aslExt w => Sys2Proof.Machine.execAslExt w s
  | .rolExt w => Sys2Proof.Machine.execRolExt w s
  | .decExt w => Sys2Proof.Machine.execDecExt w s
  | .incExt w => Sys2Proof.Machine.execIncExt w s
  | .tstExt w => Sys2Proof.Machine.execTstExt w s
  | .jmpExt w => Sys2Proof.Machine.execJmpExt w s
  | .clrExt w => Sys2Proof.Machine.execClrExt w s
  | .subaImm v => Sys2Proof.Machine.execSubaImm v s
  | .cmpaImm v => Sys2Proof.Machine.execCmpaImm v s
  | .sbcaImm v => Sys2Proof.Machine.execSbcaImm v s
  | .subdImm v => Sys2Proof.Machine.execSubdImm v s
  | .andaImm v => Sys2Proof.Machine.execAndaImm v s
  | .bitaImm v => Sys2Proof.Machine.execBitaImm v s
  | .ldaImm v => Sys2Proof.Machine.execLdaImm v s
  | .eoraImm v => Sys2Proof.Machine.execEoraImm v s
  | .adcaImm v => Sys2Proof.Machine.execAdcaImm v s
  | .oraImm v => Sys2Proof.Machine.execOraImm v s
  | .addaImm v => Sys2Proof.Machine.execAddaImm v s
  | .cmpxImm v => Sys2Proof.Machine.execCmpxImm v s
  | .bsr r => Sys2Proof.Machine.execBsr r s
  | .ldxImm v => Sys2Proof.Machine.execLdxImm v s
  | .subaDir d => Sys2Proof.Machine.execSubaDir d s
  | .cmpaDir d => Sys2Proof.Machine.execCmpaDir d s
  | .sbcaDir d => Sys2Proof.Machine.execSbcaDir d s
  | .subdDir d => Sys2Proof.Machine.execSubdDir d s
  | .andaDir d => Sys2Proof.Machine.execAndaDir d s
  | .bitaDir d => Sys2Proof.Machine.execBitaDir d s
  | .ldaDir d => Sys2Proof.Machine.execLdaDir d s
  | .staDir d => Sys2Proof.Machine.execStaDir d s
  | .eoraDir d => Sys2Proof.Machine.execEoraDir d s
  | .adcaDir d => Sys2Proof.Machine.execAdcaDir d s
  | .oraDir d => Sys2Proof.Machine.execOraDir d s
  | .addaDir d => Sys2Proof.Machine.execAddaDir d s
  | .cmpxDir d => Sys2Proof.Machine.execCmpxDir d s
  | .jsrDir d => Sys2Proof.Machine.execJsrDir d s
  | .ldxDir d => Sys2Proof.Machine.execLdxDir d s
  | .stxDir d => Sys2Proof.Machine.execStxDir d s
  | .subaIdx ix => Sys2Proof.Machine.execSubaIdx ix s
  | .cmpaIdx ix => Sys2Proof.Machine.execCmpaIdx ix s
  | .sbcaIdx ix => Sys2Proof.Machine.execSbcaIdx ix s
  | .subdIdx ix => Sys2Proof.Machine.execSubdIdx ix s
  | .andaIdx ix => Sys2Proof.Machine.execAndaIdx ix s
  | .bitaIdx ix => Sys2Proof.Machine.execBitaIdx ix s
  | .ldaIdx ix => Sys2Proof.Machine.execLdaIdx ix s
  | .staIdx ix => Sys2Proof.Machine.execStaIdx ix s
  | .eoraIdx ix => Sys2Proof.Machine.execEoraIdx ix s
  | .adcaIdx ix => Sys2Proof.Machine.execAdcaIdx ix s
  | .oraIdx ix => Sys2Proof.Machine.execOraIdx ix s
  | .addaIdx ix => Sys2Proof.Machine.execAddaIdx ix s
  | .cmpxIdx ix => Sys2Proof.Machine.execCmpxIdx ix s
  | .jsrIdx ix => Sys2Proof.Machine.execJsrIdx ix s
  | .ldxIdx ix => Sys2Proof.Machine.execLdxIdx ix s
  | .stxIdx ix => Sys2Proof.Machine.execStxIdx ix s
  | .subaExt w => Sys2Proof.Machine.execSubaExt w s
  | .cmpaExt w => Sys2Proof.Machine.execCmpaExt w s
  | .sbcaExt w => Sys2Proof.Machine.execSbcaExt w s
  | .subdExt w => Sys2Proof.Machine.execSubdExt w s
  | .andaExt w => Sys2Proof.Machine.execAndaExt w s
  | .bitaExt w => Sys2Proof.Machine.execBitaExt w s
  | .ldaExt w => Sys2Proof.Machine.execLdaExt w s
  | .staExt w => Sys2Proof.Machine.execStaExt w s
  | .eoraExt w => Sys2Proof.Machine.execEoraExt w s
  | .adcaExt w => Sys2Proof.Machine.execAdcaExt w s
  | .oraExt w => Sys2Proof.Machine.execOraExt w s
  | .addaExt w => Sys2Proof.Machine.execAddaExt w s
  | .cmpxExt w => Sys2Proof.Machine.execCmpxExt w s
  | .jsrExt w => Sys2Proof.Machine.execJsrExt w s
  | .ldxExt w => Sys2Proof.Machine.execLdxExt w s
  | .stxExt w => Sys2Proof.Machine.execStxExt w s
  | .subbImm v => Sys2Proof.Machine.execSubbImm v s
  | .cmpbImm v => Sys2Proof.Machine.execCmpbImm v s
  | .sbcbImm v => Sys2Proof.Machine.execSbcbImm v s
  | .adddImm v => Sys2Proof.Machine.execAdddImm v s
  | .andbImm v => Sys2Proof.Machine.execAndbImm v s
  | .bitbImm v => Sys2Proof.Machine.execBitbImm v s
  | .ldbImm v => Sys2Proof.Machine.execLdbImm v s
  | .eorbImm v => Sys2Proof.Machine.execEorbImm v s
  | .adcbImm v => Sys2Proof.Machine.execAdcbImm v s
  | .orbImm v => Sys2Proof.Machine.execOrbImm v s
  | .addbImm v => Sys2Proof.Machine.execAddbImm v s
  | .lddImm v => Sys2Proof.Machine.execLddImm v s
  | .lduImm v => Sys2Proof.Machine.execLduImm v s
  | .subbDir d => Sys2Proof.Machine.execSubbDir d s
  | .cmpbDir d => Sys2Proof.Machine.execCmpbDir d s
  | .sbcbDir d => Sys2Proof.Machine.execSbcbDir d s
  | .adddDir d => Sys2Proof.Machine.execAdddDir d s
  | .andbDir d => Sys2Proof.Machine.execAndbDir d s
  | .bitbDir d => Sys2Proof.Machine.execBitbDir d s
  | .ldbDir d => Sys2Proof.Machine.execLdbDir d s
  | .stbDir d => Sys2Proof.Machine.execStbDir d s
  | .eorbDir d => Sys2Proof.Machine.execEorbDir d s
  | .adcbDir d => Sys2Proof.Machine.execAdcbDir d s
  | .orbDir d => Sys2Proof.Machine.execOrbDir d s
  | .addbDir d => Sys2Proof.Machine.execAddbDir d s
  | .lddDir d => Sys2Proof.Machine.execLddDir d s
  | .stdDir d => Sys2Proof.Machine.execStdDir d s
  | .lduDir d => Sys2Proof.Machine.execLduDir d s
  | .stuDir d => Sys2Proof.Machine.execStuDir d s
  | .subbIdx ix => Sys2Proof.Machine.execSubbIdx ix s
  | .cmpbIdx ix => Sys2Proof.Machine.execCmpbIdx ix s
  | .sbcbIdx ix => Sys2Proof.Machine.execSbcbIdx ix s
  | .adddIdx ix => Sys2Proof.Machine.execAdddIdx ix s
  | .andbIdx ix => Sys2Proof.Machine.execAndbIdx ix s
  | .bitbIdx ix => Sys2Proof.Machine.execBitbIdx ix s
  | .ldbIdx ix => Sys2Proof.Machine.execLdbIdx ix s
  | .stbIdx ix => Sys2Proof.Machine.execStbIdx ix s
  | .eorbIdx ix => Sys2Proof.Machine.execEorbIdx ix s
  | .adcbIdx ix => Sys2Proof.Machine.execAdcbIdx ix s
  | .orbIdx ix => Sys2Proof.Machine.execOrbIdx ix s
  | .addbIdx ix => Sys2Proof.Machine.execAddbIdx ix s
  | .lddIdx ix => Sys2Proof.Machine.execLddIdx ix s
  | .stdIdx ix => Sys2Proof.Machine.execStdIdx ix s
  | .lduIdx ix => Sys2Proof.Machine.execLduIdx ix s
  | .stuIdx ix => Sys2Proof.Machine.execStuIdx ix s
  | .subbExt w => Sys2Proof.Machine.execSubbExt w s
  | .cmpbExt w => Sys2Proof.Machine.execCmpbExt w s
  | .sbcbExt w => Sys2Proof.Machine.execSbcbExt w s
  | .adddExt w => Sys2Proof.Machine.execAdddExt w s
  | .andbExt w => Sys2Proof.Machine.execAndbExt w s
  | .bitbExt w => Sys2Proof.Machine.execBitbExt w s
  | .ldbExt w => Sys2Proof.Machine.execLdbExt w s
  | .stbExt w => Sys2Proof.Machine.execStbExt w s
  | .eorbExt w => Sys2Proof.Machine.execEorbExt w s
  | .adcbExt w => Sys2Proof.Machine.execAdcbExt w s
  | .orbExt w => Sys2Proof.Machine.execOrbExt w s
  | .addbExt w => Sys2Proof.Machine.execAddbExt w s
  | .lddExt w => Sys2Proof.Machine.execLddExt w s
  | .stdExt w => Sys2Proof.Machine.execStdExt w s
  | .lduExt w => Sys2Proof.Machine.execLduExt w s
  | .stuExt w => Sys2Proof.Machine.execStuExt w s
  | .lbrn r => Sys2Proof.Machine.execLbrn r s
  | .lbhi r => Sys2Proof.Machine.execLbhi r s
  | .lbls r => Sys2Proof.Machine.execLbls r s
  | .lbcc r => Sys2Proof.Machine.execLbcc r s
  | .lbcs r => Sys2Proof.Machine.execLbcs r s
  | .lbne r => Sys2Proof.Machine.execLbne r s
  | .lbeq r => Sys2Proof.Machine.execLbeq r s
  | .lbvc r => Sys2Proof.Machine.execLbvc r s
  | .lbvs r => Sys2Proof.Machine.execLbvs r s
  | .lbpl r => Sys2Proof.Machine.execLbpl r s
  | .lbmi r => Sys2Proof.Machine.execLbmi r s
  | .lbge r => Sys2Proof.Machine.execLbge r s
  | .lblt r => Sys2Proof.Machine.execLblt r s
  | .lbgt r => Sys2Proof.Machine.execLbgt r s
  | .lble r => Sys2Proof.Machine.execLble r s
  | .cmpdImm v => Sys2Proof.Machine.execCmpdImm v s
  | .cmpyImm v => Sys2Proof.Machine.execCmpyImm v s
  | .ldyImm v => Sys2Proof.Machine.execLdyImm v s
  | .cmpdDir d => Sys2Proof.Machine.execCmpdDir d s
  | .cmpyDir d => Sys2Proof.Machine.execCmpyDir d s
  | .ldyDir d => Sys2Proof.Machine.execLdyDir d s
  | .styDir d => Sys2Proof.Machine.execStyDir d s
  | .cmpdIdx ix => Sys2Proof.Machine.execCmpdIdx ix s
  | .cmpyIdx ix => Sys2Proof.Machine.execCmpyIdx ix s
  | .ldyIdx ix => Sys2Proof.Machine.execLdyIdx ix s
  | .styIdx ix => Sys2Proof.Machine.execStyIdx ix s
  | .cmpdExt w => Sys2Proof.Machine.execCmpdExt w s
  | .cmpyExt w => Sys2Proof.Machine.execCmpyExt w s
  | .ldyExt w => Sys2Proof.Machine.execLdyExt w s
  | .styExt w => Sys2Proof.Machine.execStyExt w s
  | .ldsImm v => Sys2Proof.Machine.execLdsImm v s
  | .ldsDir d => Sys2Proof.Machine.execLdsDir d s
  | .stsDir d => Sys2Proof.Machine.execStsDir d s
  | .ldsIdx ix => Sys2Proof.Machine.execLdsIdx ix s
  | .stsIdx ix => Sys2Proof.Machine.execStsIdx ix s
  | .ldsExt w => Sys2Proof.Machine.execLdsExt w s
  | .stsExt w => Sys2Proof.Machine.execStsExt w s
  | .cmpuImm v => Sys2Proof.Machine.execCmpuImm v s
  | .cmpsImm v => Sys2Proof.Machine.execCmpsImm v s
  | .cmpuDir d => Sys2Proof.Machine.execCmpuDir d s
  | .cmpsDir d => Sys2Proof.Machine.execCmpsDir d s
  | .cmpuIdx ix => Sys2Proof.Machine.execCmpuIdx ix s
  | .cmpsIdx ix => Sys2Proof.Machine.execCmpsIdx ix s
  | .cmpuExt w => Sys2Proof.Machine.execCmpuExt w s
  | .cmpsExt w => Sys2Proof.Machine.execCmpsExt w s
  | .nop => Sys2Proof.Machine.execNop s
  | .sync => Sys2Proof.Machine.execSync s
  | .daa => Sys2Proof.Machine.execDaa s
  | .sex => Sys2Proof.Machine.execSex s
  | .rts => Sys2Proof.Machine.execRts s
  | .abx => Sys2Proof.Machine.execAbx s
  | .rti => Sys2Proof.Machine.execRti s
  | .mul => Sys2Proof.Machine.execMul s
  | .swi => Sys2Proof.Machine.execSwi s
  | .nega => Sys2Proof.Machine.execNega s
  | .coma => Sys2Proof.Machine.execComa s
  | .lsra => Sys2Proof.Machine.execLsra s
  | .rora => Sys2Proof.Machine.execRora s
  | .asra => Sys2Proof.Machine.execAsra s
  | .asla => Sys2Proof.Machine.execAsla s
  | .rola => Sys2Proof.Machine.execRola s
  | .deca => Sys2Proof.Machine.execDeca s
  | .inca => Sys2Proof.Machine.execInca s
  | .tsta => Sys2Proof.Machine.execTsta s
  | .clra => Sys2Proof.Machine.execClra s
  | .negb => Sys2Proof.Machine.execNegb s
  | .comb => Sys2Proof.Machine.execComb s
  | .lsrb => Sys2Proof.Machine.execLsrb s
  | .rorb => Sys2Proof.Machine.execRorb s
  | .asrb => Sys2Proof.Machine.execAsrb s
  | .aslb => Sys2Proof.Machine.execAslb s
  | .rolb => Sys2Proof.Machine.execRolb s
  | .decb => Sys2Proof.Machine.execDecb s
  | .incb => Sys2Proof.Machine.execIncb s
  | .tstb => Sys2Proof.Machine.execTstb s
  | .clrb => Sys2Proof.Machine.execClrb s
  | .swi2 => Sys2Proof.Machine.execSwi2 s
  | .swi3 => Sys2Proof.Machine.execSwi3 s

end Sys2Proof.Machine
end

