-- ==== Sys2Proof/Decode.lean ====
section
/-! DEFINITION. The decoder, total on any bytes and refusing by name (spec/30_encoding.md R130 to R141, R158 to R173),
then the encoder, from the same opcode maps (30 R138 to R140). -/

namespace Sys2Proof

open Sys2Proof.Machine (joinBytes hiByte loByte)

/-- What follows the opcode of a row, and the instruction those bytes make: the operand layout of the row's addressing
mode (30 R130). -/
inductive Entry where
  /-- Inherent: nothing. -/
  | inh (i : Instr)
  /-- ImmediateByte, ImmediateStackMask, Direct and RelativeByte: one byte. -/
  | byte (f : Byte → Instr)
  /-- ImmediateWord, Extended and RelativeWord: two bytes, big-endian. -/
  | word (f : Word → Instr)
  /-- ImmediateRegs: one byte, source code then destination code (30 R174). -/
  | regs (f : BitVec 4 → BitVec 4 → Instr)
  /-- Indexed: a postbyte and 0, 1 or 2 offset bytes (30 R172). -/
  | idx (f : Indexed → Instr)

/-- What the decoder answers on a sequence of bytes. -/
inductive DecodeResult where
  /-- An instruction, whether a prefix fell back to page 1 to reach it (30 R133), and the bytes after it. -/
  | instr (i : Instr) (fallbackUsed : Bool) (rest : List Byte)
  /-- `raise InvalidOpcode` (30 R134, R136), and the bytes after the opcode. -/
  | invalidOpcode (rest : List Byte)
  /-- An undefined indexed postbyte (30 R170), and the bytes after it. -/
  | illegalIndexed (rest : List Byte)
  /-- The bytes end inside an instruction: more must be fetched (30 R137). -/
  | truncated
deriving DecidableEq, Repr

/-- What the indexed operand's bytes give (30 R158). -/
inductive IdxResult where
  | ok (ix : Indexed) (rest : List Byte)
  | illegal (rest : List Byte)
  | truncated
deriving DecidableEq, Repr

/-- The base register of a postbyte, `pb[6:5]` (30 R159). -/
def idxRegOf (rr : BitVec 2) : IdxReg :=
  match rr.toNat with
  | 0 => .x
  | 1 => .y
  | 2 => .u
  | _ => .s

/-- An indexed sub-mode that takes one offset byte. -/
def withByte (f : Byte → IdxMode) (ind : Bool) : List Byte → IdxResult
  | n :: rest => .ok ⟨f n, ind⟩ rest
  | [] => .truncated

/-- An indexed sub-mode that takes two offset bytes, big-endian. -/
def withWord (f : Word → IdxMode) (ind : Bool) : List Byte → IdxResult
  | hi :: lo :: rest => .ok ⟨f (joinBytes hi lo), ind⟩ rest
  | _ => .truncated

/-- The indexed operand: the postbyte `0 RR nnnnn` or `1 RR I MMMM` and its offset bytes (30 R158 to R173). -/
def decodeIndexed : List Byte → IdxResult
  | [] => .truncated
  | pb :: rest =>
    let r := idxRegOf (pb.extractLsb' 5 2)
    let ind := pb.getLsbD 4
    if pb.getLsbD 7 = false then .ok ⟨.off5 r (pb.extractLsb' 0 5), false⟩ rest
    else
      match (pb.extractLsb' 0 4).toNat with
      | 0x0 => .ok ⟨.postInc1 r, ind⟩ rest
      | 0x1 => .ok ⟨.postInc2 r, ind⟩ rest
      | 0x2 => .ok ⟨.preDec1 r, ind⟩ rest
      | 0x3 => .ok ⟨.preDec2 r, ind⟩ rest
      | 0x4 => .ok ⟨.zero r, ind⟩ rest
      | 0x5 => .ok ⟨.accB r, ind⟩ rest
      | 0x6 => .ok ⟨.accA r, ind⟩ rest
      | 0x8 => withByte (.off8 r) ind rest
      | 0x9 => withWord (.off16 r) ind rest
      | 0xB => .ok ⟨.accD r, ind⟩ rest
      | 0xC => withByte .pcr8 ind rest
      | 0xD => withWord .pcr16 ind rest
      | 0xF => if ind then withWord .ext ind rest else .illegal rest
      | _ => .illegal rest

/-! The opcode maps, a list per row of the maps of 30 R138 to R140. -/

/-- Page 1, opcodes 0x00 to 0x0F (30 R138). -/
def page1Row0 : List (Nat × Entry) := [
  (0x00, .byte .negDir),
  (0x03, .byte .comDir),
  (0x04, .byte .lsrDir),
  (0x06, .byte .rorDir),
  (0x07, .byte .asrDir),
  (0x08, .byte .aslDir),
  (0x09, .byte .rolDir),
  (0x0A, .byte .decDir),
  (0x0C, .byte .incDir),
  (0x0D, .byte .tstDir),
  (0x0E, .byte .jmpDir),
  (0x0F, .byte .clrDir)]

/-- Page 1, opcodes 0x10 to 0x1F (30 R138). -/
def page1Row1 : List (Nat × Entry) := [
  (0x12, .inh .nop),
  (0x13, .inh .sync),
  (0x16, .word .lbra),
  (0x17, .word .lbsr),
  (0x19, .inh .daa),
  (0x1A, .byte .orcc),
  (0x1C, .byte .andcc),
  (0x1D, .inh .sex),
  (0x1E, .regs .exg),
  (0x1F, .regs .tfr)]

/-- Page 1, opcodes 0x20 to 0x2F (30 R138). -/
def page1Row2 : List (Nat × Entry) := [
  (0x20, .byte .bra),
  (0x21, .byte .brn),
  (0x22, .byte .bhi),
  (0x23, .byte .bls),
  (0x24, .byte .bcc),
  (0x25, .byte .bcs),
  (0x26, .byte .bne),
  (0x27, .byte .beq),
  (0x28, .byte .bvc),
  (0x29, .byte .bvs),
  (0x2A, .byte .bpl),
  (0x2B, .byte .bmi),
  (0x2C, .byte .bge),
  (0x2D, .byte .blt),
  (0x2E, .byte .bgt),
  (0x2F, .byte .ble)]

/-- Page 1, opcodes 0x30 to 0x3F (30 R138). -/
def page1Row3 : List (Nat × Entry) := [
  (0x30, .idx .leax),
  (0x31, .idx .leay),
  (0x32, .idx .leas),
  (0x33, .idx .leau),
  (0x34, .byte .pshs),
  (0x35, .byte .puls),
  (0x36, .byte .pshu),
  (0x37, .byte .pulu),
  (0x39, .inh .rts),
  (0x3A, .inh .abx),
  (0x3B, .inh .rti),
  (0x3C, .byte .cwai),
  (0x3D, .inh .mul),
  (0x3F, .inh .swi)]

/-- Page 1, opcodes 0x40 to 0x4F (30 R138). -/
def page1Row4 : List (Nat × Entry) := [
  (0x40, .inh .nega),
  (0x43, .inh .coma),
  (0x44, .inh .lsra),
  (0x46, .inh .rora),
  (0x47, .inh .asra),
  (0x48, .inh .asla),
  (0x49, .inh .rola),
  (0x4A, .inh .deca),
  (0x4C, .inh .inca),
  (0x4D, .inh .tsta),
  (0x4F, .inh .clra)]

/-- Page 1, opcodes 0x50 to 0x5F (30 R138). -/
def page1Row5 : List (Nat × Entry) := [
  (0x50, .inh .negb),
  (0x53, .inh .comb),
  (0x54, .inh .lsrb),
  (0x56, .inh .rorb),
  (0x57, .inh .asrb),
  (0x58, .inh .aslb),
  (0x59, .inh .rolb),
  (0x5A, .inh .decb),
  (0x5C, .inh .incb),
  (0x5D, .inh .tstb),
  (0x5F, .inh .clrb)]

/-- Page 1, opcodes 0x60 to 0x6F (30 R138). -/
def page1Row6 : List (Nat × Entry) := [
  (0x60, .idx .negIdx),
  (0x63, .idx .comIdx),
  (0x64, .idx .lsrIdx),
  (0x66, .idx .rorIdx),
  (0x67, .idx .asrIdx),
  (0x68, .idx .aslIdx),
  (0x69, .idx .rolIdx),
  (0x6A, .idx .decIdx),
  (0x6C, .idx .incIdx),
  (0x6D, .idx .tstIdx),
  (0x6E, .idx .jmpIdx),
  (0x6F, .idx .clrIdx)]

/-- Page 1, opcodes 0x70 to 0x7F (30 R138). -/
def page1Row7 : List (Nat × Entry) := [
  (0x70, .word .negExt),
  (0x73, .word .comExt),
  (0x74, .word .lsrExt),
  (0x76, .word .rorExt),
  (0x77, .word .asrExt),
  (0x78, .word .aslExt),
  (0x79, .word .rolExt),
  (0x7A, .word .decExt),
  (0x7C, .word .incExt),
  (0x7D, .word .tstExt),
  (0x7E, .word .jmpExt),
  (0x7F, .word .clrExt)]

/-- Page 1, opcodes 0x80 to 0x8F (30 R138). -/
def page1Row8 : List (Nat × Entry) := [
  (0x80, .byte .subaImm),
  (0x81, .byte .cmpaImm),
  (0x82, .byte .sbcaImm),
  (0x83, .word .subdImm),
  (0x84, .byte .andaImm),
  (0x85, .byte .bitaImm),
  (0x86, .byte .ldaImm),
  (0x88, .byte .eoraImm),
  (0x89, .byte .adcaImm),
  (0x8A, .byte .oraImm),
  (0x8B, .byte .addaImm),
  (0x8C, .word .cmpxImm),
  (0x8D, .byte .bsr),
  (0x8E, .word .ldxImm)]

/-- Page 1, opcodes 0x90 to 0x9F (30 R138). -/
def page1Row9 : List (Nat × Entry) := [
  (0x90, .byte .subaDir),
  (0x91, .byte .cmpaDir),
  (0x92, .byte .sbcaDir),
  (0x93, .byte .subdDir),
  (0x94, .byte .andaDir),
  (0x95, .byte .bitaDir),
  (0x96, .byte .ldaDir),
  (0x97, .byte .staDir),
  (0x98, .byte .eoraDir),
  (0x99, .byte .adcaDir),
  (0x9A, .byte .oraDir),
  (0x9B, .byte .addaDir),
  (0x9C, .byte .cmpxDir),
  (0x9D, .byte .jsrDir),
  (0x9E, .byte .ldxDir),
  (0x9F, .byte .stxDir)]

/-- Page 1, opcodes 0xA0 to 0xAF (30 R138). -/
def page1RowA : List (Nat × Entry) := [
  (0xA0, .idx .subaIdx),
  (0xA1, .idx .cmpaIdx),
  (0xA2, .idx .sbcaIdx),
  (0xA3, .idx .subdIdx),
  (0xA4, .idx .andaIdx),
  (0xA5, .idx .bitaIdx),
  (0xA6, .idx .ldaIdx),
  (0xA7, .idx .staIdx),
  (0xA8, .idx .eoraIdx),
  (0xA9, .idx .adcaIdx),
  (0xAA, .idx .oraIdx),
  (0xAB, .idx .addaIdx),
  (0xAC, .idx .cmpxIdx),
  (0xAD, .idx .jsrIdx),
  (0xAE, .idx .ldxIdx),
  (0xAF, .idx .stxIdx)]

/-- Page 1, opcodes 0xB0 to 0xBF (30 R138). -/
def page1RowB : List (Nat × Entry) := [
  (0xB0, .word .subaExt),
  (0xB1, .word .cmpaExt),
  (0xB2, .word .sbcaExt),
  (0xB3, .word .subdExt),
  (0xB4, .word .andaExt),
  (0xB5, .word .bitaExt),
  (0xB6, .word .ldaExt),
  (0xB7, .word .staExt),
  (0xB8, .word .eoraExt),
  (0xB9, .word .adcaExt),
  (0xBA, .word .oraExt),
  (0xBB, .word .addaExt),
  (0xBC, .word .cmpxExt),
  (0xBD, .word .jsrExt),
  (0xBE, .word .ldxExt),
  (0xBF, .word .stxExt)]

/-- Page 1, opcodes 0xC0 to 0xCF (30 R138). -/
def page1RowC : List (Nat × Entry) := [
  (0xC0, .byte .subbImm),
  (0xC1, .byte .cmpbImm),
  (0xC2, .byte .sbcbImm),
  (0xC3, .word .adddImm),
  (0xC4, .byte .andbImm),
  (0xC5, .byte .bitbImm),
  (0xC6, .byte .ldbImm),
  (0xC8, .byte .eorbImm),
  (0xC9, .byte .adcbImm),
  (0xCA, .byte .orbImm),
  (0xCB, .byte .addbImm),
  (0xCC, .word .lddImm),
  (0xCE, .word .lduImm)]

/-- Page 1, opcodes 0xD0 to 0xDF (30 R138). -/
def page1RowD : List (Nat × Entry) := [
  (0xD0, .byte .subbDir),
  (0xD1, .byte .cmpbDir),
  (0xD2, .byte .sbcbDir),
  (0xD3, .byte .adddDir),
  (0xD4, .byte .andbDir),
  (0xD5, .byte .bitbDir),
  (0xD6, .byte .ldbDir),
  (0xD7, .byte .stbDir),
  (0xD8, .byte .eorbDir),
  (0xD9, .byte .adcbDir),
  (0xDA, .byte .orbDir),
  (0xDB, .byte .addbDir),
  (0xDC, .byte .lddDir),
  (0xDD, .byte .stdDir),
  (0xDE, .byte .lduDir),
  (0xDF, .byte .stuDir)]

/-- Page 1, opcodes 0xE0 to 0xEF (30 R138). -/
def page1RowE : List (Nat × Entry) := [
  (0xE0, .idx .subbIdx),
  (0xE1, .idx .cmpbIdx),
  (0xE2, .idx .sbcbIdx),
  (0xE3, .idx .adddIdx),
  (0xE4, .idx .andbIdx),
  (0xE5, .idx .bitbIdx),
  (0xE6, .idx .ldbIdx),
  (0xE7, .idx .stbIdx),
  (0xE8, .idx .eorbIdx),
  (0xE9, .idx .adcbIdx),
  (0xEA, .idx .orbIdx),
  (0xEB, .idx .addbIdx),
  (0xEC, .idx .lddIdx),
  (0xED, .idx .stdIdx),
  (0xEE, .idx .lduIdx),
  (0xEF, .idx .stuIdx)]

/-- Page 1, opcodes 0xF0 to 0xFF (30 R138). -/
def page1RowF : List (Nat × Entry) := [
  (0xF0, .word .subbExt),
  (0xF1, .word .cmpbExt),
  (0xF2, .word .sbcbExt),
  (0xF3, .word .adddExt),
  (0xF4, .word .andbExt),
  (0xF5, .word .bitbExt),
  (0xF6, .word .ldbExt),
  (0xF7, .word .stbExt),
  (0xF8, .word .eorbExt),
  (0xF9, .word .adcbExt),
  (0xFA, .word .orbExt),
  (0xFB, .word .addbExt),
  (0xFC, .word .lddExt),
  (0xFD, .word .stdExt),
  (0xFE, .word .lduExt),
  (0xFF, .word .stuExt)]

/-- The page-1 table (30 R138). -/
def page1 : List (Nat × Entry) :=
  page1Row0 ++ page1Row1 ++ page1Row2 ++ page1Row3 ++ page1Row4 ++ page1Row5 ++ page1Row6 ++ page1Row7 ++ page1Row8 ++ page1Row9 ++ page1RowA ++ page1RowB ++ page1RowC ++ page1RowD ++ page1RowE ++ page1RowF

/-- Page 2, opcodes 0x20 to 0x2F (30 R139). -/
def page2Row2 : List (Nat × Entry) := [
  (0x21, .word .lbrn),
  (0x22, .word .lbhi),
  (0x23, .word .lbls),
  (0x24, .word .lbcc),
  (0x25, .word .lbcs),
  (0x26, .word .lbne),
  (0x27, .word .lbeq),
  (0x28, .word .lbvc),
  (0x29, .word .lbvs),
  (0x2A, .word .lbpl),
  (0x2B, .word .lbmi),
  (0x2C, .word .lbge),
  (0x2D, .word .lblt),
  (0x2E, .word .lbgt),
  (0x2F, .word .lble)]

/-- Page 2, opcodes 0x30 to 0x3F (30 R139). -/
def page2Row3 : List (Nat × Entry) := [
  (0x3F, .inh .swi2)]

/-- Page 2, opcodes 0x80 to 0x8F (30 R139). -/
def page2Row8 : List (Nat × Entry) := [
  (0x83, .word .cmpdImm),
  (0x8C, .word .cmpyImm),
  (0x8E, .word .ldyImm)]

/-- Page 2, opcodes 0x90 to 0x9F (30 R139). -/
def page2Row9 : List (Nat × Entry) := [
  (0x93, .byte .cmpdDir),
  (0x9C, .byte .cmpyDir),
  (0x9E, .byte .ldyDir),
  (0x9F, .byte .styDir)]

/-- Page 2, opcodes 0xA0 to 0xAF (30 R139). -/
def page2RowA : List (Nat × Entry) := [
  (0xA3, .idx .cmpdIdx),
  (0xAC, .idx .cmpyIdx),
  (0xAE, .idx .ldyIdx),
  (0xAF, .idx .styIdx)]

/-- Page 2, opcodes 0xB0 to 0xBF (30 R139). -/
def page2RowB : List (Nat × Entry) := [
  (0xB3, .word .cmpdExt),
  (0xBC, .word .cmpyExt),
  (0xBE, .word .ldyExt),
  (0xBF, .word .styExt)]

/-- Page 2, opcodes 0xC0 to 0xCF (30 R139). -/
def page2RowC : List (Nat × Entry) := [
  (0xCE, .word .ldsImm)]

/-- Page 2, opcodes 0xD0 to 0xDF (30 R139). -/
def page2RowD : List (Nat × Entry) := [
  (0xDE, .byte .ldsDir),
  (0xDF, .byte .stsDir)]

/-- Page 2, opcodes 0xE0 to 0xEF (30 R139). -/
def page2RowE : List (Nat × Entry) := [
  (0xEE, .idx .ldsIdx),
  (0xEF, .idx .stsIdx)]

/-- Page 2, opcodes 0xF0 to 0xFF (30 R139). -/
def page2RowF : List (Nat × Entry) := [
  (0xFE, .word .ldsExt),
  (0xFF, .word .stsExt)]

/-- The page-2 table (30 R139). -/
def page2 : List (Nat × Entry) :=
  page2Row2 ++ page2Row3 ++ page2Row8 ++ page2Row9 ++ page2RowA ++ page2RowB ++ page2RowC ++ page2RowD ++ page2RowE ++ page2RowF

/-- Page 3, opcodes 0x30 to 0x3F (30 R140). -/
def page3Row3 : List (Nat × Entry) := [
  (0x3F, .inh .swi3)]

/-- Page 3, opcodes 0x80 to 0x8F (30 R140). -/
def page3Row8 : List (Nat × Entry) := [
  (0x83, .word .cmpuImm),
  (0x8C, .word .cmpsImm)]

/-- Page 3, opcodes 0x90 to 0x9F (30 R140). -/
def page3Row9 : List (Nat × Entry) := [
  (0x93, .byte .cmpuDir),
  (0x9C, .byte .cmpsDir)]

/-- Page 3, opcodes 0xA0 to 0xAF (30 R140). -/
def page3RowA : List (Nat × Entry) := [
  (0xA3, .idx .cmpuIdx),
  (0xAC, .idx .cmpsIdx)]

/-- Page 3, opcodes 0xB0 to 0xBF (30 R140). -/
def page3RowB : List (Nat × Entry) := [
  (0xB3, .word .cmpuExt),
  (0xBC, .word .cmpsExt)]

/-- The page-3 table (30 R140). -/
def page3 : List (Nat × Entry) :=
  page3Row3 ++ page3Row8 ++ page3Row9 ++ page3RowA ++ page3RowB

/-- The row of an opcode in a table, if it is defined (30 R132). -/
def findRow : List (Nat × Entry) → Nat → Option Entry
  | [], _ => none
  | (k, e) :: rest, op => if op = k then some e else findRow rest op

/-- The operand bytes of a row (30 R130, R150). -/
def decodeOperand (e : Entry) (fallbackUsed : Bool) (bs : List Byte) : DecodeResult :=
  match e with
  | .inh i => .instr i fallbackUsed bs
  | .byte f =>
    match bs with
    | v :: rest => .instr (f v) fallbackUsed rest
    | [] => .truncated
  | .word f =>
    match bs with
    | hi :: lo :: rest => .instr (f (joinBytes hi lo)) fallbackUsed rest
    | _ => .truncated
  | .regs f =>
    match bs with
    | pb :: rest => .instr (f (pb.extractLsb' 4 4) (pb.extractLsb' 0 4)) fallbackUsed rest
    | [] => .truncated
  | .idx f =>
    match decodeIndexed bs with
    | .ok ix rest => .instr (f ix) fallbackUsed rest
    | .illegal rest => .illegalIndexed rest
    | .truncated => .truncated

/-- The page-1 decoding of an opcode: its row's operand, or InvalidOpcode. The page-1 map has no row for 0x10 and 0x11,
so a prefix reached by the fallback is invalid (30 R134, R136). -/
def decodePage1 (op : Byte) (fallbackUsed : Bool) (rest : List Byte) : DecodeResult :=
  match findRow page1 op.toNat with
  | some e => decodeOperand e fallbackUsed rest
  | none => .invalidOpcode rest

/-- The decoding after a prefix: the page's row, else the fallback to page 1 (30 R131, R133). -/
def decodePaged (page : List (Nat × Entry)) (bs : List Byte) : DecodeResult :=
  match bs with
  | [] => .truncated
  | b2 :: rest =>
    match findRow page b2.toNat with
    | some e => decodeOperand e false rest
    | none => decodePage1 b2 true rest

/-- `Decode()` (30 R131), on the bytes at PC in order. -/
def decode : List Byte → DecodeResult
  | [] => .truncated
  | b1 :: rest =>
    if b1 = 0x10#8 then decodePaged page2 rest
    else if b1 = 0x11#8 then decodePaged page3 rest
    else decodePage1 b1 false rest

/-! The encoder. -/

/-- The code of a base register in `pb[6:5]` (30 R159). -/
def idxRegCode : IdxReg → BitVec 2
  | .x => 0
  | .y => 1
  | .u => 2
  | .s => 3

/-- The postbyte `1 RR I MMMM` (30 R173). -/
def postbyte (rr : BitVec 2) (ind : Bool) (m : BitVec 4) : Byte :=
  (1#1 ++ rr ++ BitVec.ofBool ind ++ m : BitVec 8)

/-- A 16-bit operand in memory order, high byte first (20 R85). -/
def wordBytes (w : Word) : List Byte := [hiByte w, loByte w]

/-- The bytes of an indexed operand (30 R173). Where the register field is ignored (30 R159) it is written as 00. -/
def encodeIndexed (ix : Indexed) : List Byte :=
  match ix.mode with
  | .off5 r n => [(0#1 ++ idxRegCode r ++ n : BitVec 8)]
  | .postInc1 r => [postbyte (idxRegCode r) ix.indirect 0x0]
  | .postInc2 r => [postbyte (idxRegCode r) ix.indirect 0x1]
  | .preDec1 r => [postbyte (idxRegCode r) ix.indirect 0x2]
  | .preDec2 r => [postbyte (idxRegCode r) ix.indirect 0x3]
  | .zero r => [postbyte (idxRegCode r) ix.indirect 0x4]
  | .accB r => [postbyte (idxRegCode r) ix.indirect 0x5]
  | .accA r => [postbyte (idxRegCode r) ix.indirect 0x6]
  | .accD r => [postbyte (idxRegCode r) ix.indirect 0xB]
  | .off8 r n => [postbyte (idxRegCode r) ix.indirect 0x8, n]
  | .off16 r n => postbyte (idxRegCode r) ix.indirect 0x9 :: wordBytes n
  | .pcr8 n => [postbyte 0 ix.indirect 0xC, n]
  | .pcr16 n => postbyte 0 ix.indirect 0xD :: wordBytes n
  | .ext n => postbyte 0 ix.indirect 0xF :: wordBytes n

/-- The register postbyte of TFR and EXG (30 R174). -/
def regsByte (src dst : BitVec 4) : Byte := (src ++ dst : BitVec 8)

/-- The bytes of an instruction, from the opcode maps (30 R138 to R140) and the layouts (30 R130). -/
def encode : Instr → List Byte
  | .negDir d => [0x00, d]
  | .comDir d => [0x03, d]
  | .lsrDir d => [0x04, d]
  | .rorDir d => [0x06, d]
  | .asrDir d => [0x07, d]
  | .aslDir d => [0x08, d]
  | .rolDir d => [0x09, d]
  | .decDir d => [0x0A, d]
  | .incDir d => [0x0C, d]
  | .tstDir d => [0x0D, d]
  | .jmpDir d => [0x0E, d]
  | .clrDir d => [0x0F, d]
  | .lbra r => [0x16] ++ wordBytes r
  | .lbsr r => [0x17] ++ wordBytes r
  | .orcc v => [0x1A, v]
  | .andcc v => [0x1C, v]
  | .exg r1 r2 => [0x1E, regsByte r1 r2]
  | .tfr src dst => [0x1F, regsByte src dst]
  | .bra r => [0x20, r]
  | .brn r => [0x21, r]
  | .bhi r => [0x22, r]
  | .bls r => [0x23, r]
  | .bcc r => [0x24, r]
  | .bcs r => [0x25, r]
  | .bne r => [0x26, r]
  | .beq r => [0x27, r]
  | .bvc r => [0x28, r]
  | .bvs r => [0x29, r]
  | .bpl r => [0x2A, r]
  | .bmi r => [0x2B, r]
  | .bge r => [0x2C, r]
  | .blt r => [0x2D, r]
  | .bgt r => [0x2E, r]
  | .ble r => [0x2F, r]
  | .leax ix => [0x30] ++ encodeIndexed ix
  | .leay ix => [0x31] ++ encodeIndexed ix
  | .leas ix => [0x32] ++ encodeIndexed ix
  | .leau ix => [0x33] ++ encodeIndexed ix
  | .pshs mask => [0x34, mask]
  | .puls mask => [0x35, mask]
  | .pshu mask => [0x36, mask]
  | .pulu mask => [0x37, mask]
  | .cwai v => [0x3C, v]
  | .negIdx ix => [0x60] ++ encodeIndexed ix
  | .comIdx ix => [0x63] ++ encodeIndexed ix
  | .lsrIdx ix => [0x64] ++ encodeIndexed ix
  | .rorIdx ix => [0x66] ++ encodeIndexed ix
  | .asrIdx ix => [0x67] ++ encodeIndexed ix
  | .aslIdx ix => [0x68] ++ encodeIndexed ix
  | .rolIdx ix => [0x69] ++ encodeIndexed ix
  | .decIdx ix => [0x6A] ++ encodeIndexed ix
  | .incIdx ix => [0x6C] ++ encodeIndexed ix
  | .tstIdx ix => [0x6D] ++ encodeIndexed ix
  | .jmpIdx ix => [0x6E] ++ encodeIndexed ix
  | .clrIdx ix => [0x6F] ++ encodeIndexed ix
  | .negExt w => [0x70] ++ wordBytes w
  | .comExt w => [0x73] ++ wordBytes w
  | .lsrExt w => [0x74] ++ wordBytes w
  | .rorExt w => [0x76] ++ wordBytes w
  | .asrExt w => [0x77] ++ wordBytes w
  | .aslExt w => [0x78] ++ wordBytes w
  | .rolExt w => [0x79] ++ wordBytes w
  | .decExt w => [0x7A] ++ wordBytes w
  | .incExt w => [0x7C] ++ wordBytes w
  | .tstExt w => [0x7D] ++ wordBytes w
  | .jmpExt w => [0x7E] ++ wordBytes w
  | .clrExt w => [0x7F] ++ wordBytes w
  | .subaImm v => [0x80, v]
  | .cmpaImm v => [0x81, v]
  | .sbcaImm v => [0x82, v]
  | .subdImm v => [0x83] ++ wordBytes v
  | .andaImm v => [0x84, v]
  | .bitaImm v => [0x85, v]
  | .ldaImm v => [0x86, v]
  | .eoraImm v => [0x88, v]
  | .adcaImm v => [0x89, v]
  | .oraImm v => [0x8A, v]
  | .addaImm v => [0x8B, v]
  | .cmpxImm v => [0x8C] ++ wordBytes v
  | .bsr r => [0x8D, r]
  | .ldxImm v => [0x8E] ++ wordBytes v
  | .subaDir d => [0x90, d]
  | .cmpaDir d => [0x91, d]
  | .sbcaDir d => [0x92, d]
  | .subdDir d => [0x93, d]
  | .andaDir d => [0x94, d]
  | .bitaDir d => [0x95, d]
  | .ldaDir d => [0x96, d]
  | .staDir d => [0x97, d]
  | .eoraDir d => [0x98, d]
  | .adcaDir d => [0x99, d]
  | .oraDir d => [0x9A, d]
  | .addaDir d => [0x9B, d]
  | .cmpxDir d => [0x9C, d]
  | .jsrDir d => [0x9D, d]
  | .ldxDir d => [0x9E, d]
  | .stxDir d => [0x9F, d]
  | .subaIdx ix => [0xA0] ++ encodeIndexed ix
  | .cmpaIdx ix => [0xA1] ++ encodeIndexed ix
  | .sbcaIdx ix => [0xA2] ++ encodeIndexed ix
  | .subdIdx ix => [0xA3] ++ encodeIndexed ix
  | .andaIdx ix => [0xA4] ++ encodeIndexed ix
  | .bitaIdx ix => [0xA5] ++ encodeIndexed ix
  | .ldaIdx ix => [0xA6] ++ encodeIndexed ix
  | .staIdx ix => [0xA7] ++ encodeIndexed ix
  | .eoraIdx ix => [0xA8] ++ encodeIndexed ix
  | .adcaIdx ix => [0xA9] ++ encodeIndexed ix
  | .oraIdx ix => [0xAA] ++ encodeIndexed ix
  | .addaIdx ix => [0xAB] ++ encodeIndexed ix
  | .cmpxIdx ix => [0xAC] ++ encodeIndexed ix
  | .jsrIdx ix => [0xAD] ++ encodeIndexed ix
  | .ldxIdx ix => [0xAE] ++ encodeIndexed ix
  | .stxIdx ix => [0xAF] ++ encodeIndexed ix
  | .subaExt w => [0xB0] ++ wordBytes w
  | .cmpaExt w => [0xB1] ++ wordBytes w
  | .sbcaExt w => [0xB2] ++ wordBytes w
  | .subdExt w => [0xB3] ++ wordBytes w
  | .andaExt w => [0xB4] ++ wordBytes w
  | .bitaExt w => [0xB5] ++ wordBytes w
  | .ldaExt w => [0xB6] ++ wordBytes w
  | .staExt w => [0xB7] ++ wordBytes w
  | .eoraExt w => [0xB8] ++ wordBytes w
  | .adcaExt w => [0xB9] ++ wordBytes w
  | .oraExt w => [0xBA] ++ wordBytes w
  | .addaExt w => [0xBB] ++ wordBytes w
  | .cmpxExt w => [0xBC] ++ wordBytes w
  | .jsrExt w => [0xBD] ++ wordBytes w
  | .ldxExt w => [0xBE] ++ wordBytes w
  | .stxExt w => [0xBF] ++ wordBytes w
  | .subbImm v => [0xC0, v]
  | .cmpbImm v => [0xC1, v]
  | .sbcbImm v => [0xC2, v]
  | .adddImm v => [0xC3] ++ wordBytes v
  | .andbImm v => [0xC4, v]
  | .bitbImm v => [0xC5, v]
  | .ldbImm v => [0xC6, v]
  | .eorbImm v => [0xC8, v]
  | .adcbImm v => [0xC9, v]
  | .orbImm v => [0xCA, v]
  | .addbImm v => [0xCB, v]
  | .lddImm v => [0xCC] ++ wordBytes v
  | .lduImm v => [0xCE] ++ wordBytes v
  | .subbDir d => [0xD0, d]
  | .cmpbDir d => [0xD1, d]
  | .sbcbDir d => [0xD2, d]
  | .adddDir d => [0xD3, d]
  | .andbDir d => [0xD4, d]
  | .bitbDir d => [0xD5, d]
  | .ldbDir d => [0xD6, d]
  | .stbDir d => [0xD7, d]
  | .eorbDir d => [0xD8, d]
  | .adcbDir d => [0xD9, d]
  | .orbDir d => [0xDA, d]
  | .addbDir d => [0xDB, d]
  | .lddDir d => [0xDC, d]
  | .stdDir d => [0xDD, d]
  | .lduDir d => [0xDE, d]
  | .stuDir d => [0xDF, d]
  | .subbIdx ix => [0xE0] ++ encodeIndexed ix
  | .cmpbIdx ix => [0xE1] ++ encodeIndexed ix
  | .sbcbIdx ix => [0xE2] ++ encodeIndexed ix
  | .adddIdx ix => [0xE3] ++ encodeIndexed ix
  | .andbIdx ix => [0xE4] ++ encodeIndexed ix
  | .bitbIdx ix => [0xE5] ++ encodeIndexed ix
  | .ldbIdx ix => [0xE6] ++ encodeIndexed ix
  | .stbIdx ix => [0xE7] ++ encodeIndexed ix
  | .eorbIdx ix => [0xE8] ++ encodeIndexed ix
  | .adcbIdx ix => [0xE9] ++ encodeIndexed ix
  | .orbIdx ix => [0xEA] ++ encodeIndexed ix
  | .addbIdx ix => [0xEB] ++ encodeIndexed ix
  | .lddIdx ix => [0xEC] ++ encodeIndexed ix
  | .stdIdx ix => [0xED] ++ encodeIndexed ix
  | .lduIdx ix => [0xEE] ++ encodeIndexed ix
  | .stuIdx ix => [0xEF] ++ encodeIndexed ix
  | .subbExt w => [0xF0] ++ wordBytes w
  | .cmpbExt w => [0xF1] ++ wordBytes w
  | .sbcbExt w => [0xF2] ++ wordBytes w
  | .adddExt w => [0xF3] ++ wordBytes w
  | .andbExt w => [0xF4] ++ wordBytes w
  | .bitbExt w => [0xF5] ++ wordBytes w
  | .ldbExt w => [0xF6] ++ wordBytes w
  | .stbExt w => [0xF7] ++ wordBytes w
  | .eorbExt w => [0xF8] ++ wordBytes w
  | .adcbExt w => [0xF9] ++ wordBytes w
  | .orbExt w => [0xFA] ++ wordBytes w
  | .addbExt w => [0xFB] ++ wordBytes w
  | .lddExt w => [0xFC] ++ wordBytes w
  | .stdExt w => [0xFD] ++ wordBytes w
  | .lduExt w => [0xFE] ++ wordBytes w
  | .stuExt w => [0xFF] ++ wordBytes w
  | .lbrn r => [0x10, 0x21] ++ wordBytes r
  | .lbhi r => [0x10, 0x22] ++ wordBytes r
  | .lbls r => [0x10, 0x23] ++ wordBytes r
  | .lbcc r => [0x10, 0x24] ++ wordBytes r
  | .lbcs r => [0x10, 0x25] ++ wordBytes r
  | .lbne r => [0x10, 0x26] ++ wordBytes r
  | .lbeq r => [0x10, 0x27] ++ wordBytes r
  | .lbvc r => [0x10, 0x28] ++ wordBytes r
  | .lbvs r => [0x10, 0x29] ++ wordBytes r
  | .lbpl r => [0x10, 0x2A] ++ wordBytes r
  | .lbmi r => [0x10, 0x2B] ++ wordBytes r
  | .lbge r => [0x10, 0x2C] ++ wordBytes r
  | .lblt r => [0x10, 0x2D] ++ wordBytes r
  | .lbgt r => [0x10, 0x2E] ++ wordBytes r
  | .lble r => [0x10, 0x2F] ++ wordBytes r
  | .cmpdImm v => [0x10, 0x83] ++ wordBytes v
  | .cmpyImm v => [0x10, 0x8C] ++ wordBytes v
  | .ldyImm v => [0x10, 0x8E] ++ wordBytes v
  | .cmpdDir d => [0x10, 0x93, d]
  | .cmpyDir d => [0x10, 0x9C, d]
  | .ldyDir d => [0x10, 0x9E, d]
  | .styDir d => [0x10, 0x9F, d]
  | .cmpdIdx ix => [0x10, 0xA3] ++ encodeIndexed ix
  | .cmpyIdx ix => [0x10, 0xAC] ++ encodeIndexed ix
  | .ldyIdx ix => [0x10, 0xAE] ++ encodeIndexed ix
  | .styIdx ix => [0x10, 0xAF] ++ encodeIndexed ix
  | .cmpdExt w => [0x10, 0xB3] ++ wordBytes w
  | .cmpyExt w => [0x10, 0xBC] ++ wordBytes w
  | .ldyExt w => [0x10, 0xBE] ++ wordBytes w
  | .styExt w => [0x10, 0xBF] ++ wordBytes w
  | .ldsImm v => [0x10, 0xCE] ++ wordBytes v
  | .ldsDir d => [0x10, 0xDE, d]
  | .stsDir d => [0x10, 0xDF, d]
  | .ldsIdx ix => [0x10, 0xEE] ++ encodeIndexed ix
  | .stsIdx ix => [0x10, 0xEF] ++ encodeIndexed ix
  | .ldsExt w => [0x10, 0xFE] ++ wordBytes w
  | .stsExt w => [0x10, 0xFF] ++ wordBytes w
  | .cmpuImm v => [0x11, 0x83] ++ wordBytes v
  | .cmpsImm v => [0x11, 0x8C] ++ wordBytes v
  | .cmpuDir d => [0x11, 0x93, d]
  | .cmpsDir d => [0x11, 0x9C, d]
  | .cmpuIdx ix => [0x11, 0xA3] ++ encodeIndexed ix
  | .cmpsIdx ix => [0x11, 0xAC] ++ encodeIndexed ix
  | .cmpuExt w => [0x11, 0xB3] ++ wordBytes w
  | .cmpsExt w => [0x11, 0xBC] ++ wordBytes w
  | .nop => [0x12]
  | .sync => [0x13]
  | .daa => [0x19]
  | .sex => [0x1D]
  | .rts => [0x39]
  | .abx => [0x3A]
  | .rti => [0x3B]
  | .mul => [0x3D]
  | .swi => [0x3F]
  | .nega => [0x40]
  | .coma => [0x43]
  | .lsra => [0x44]
  | .rora => [0x46]
  | .asra => [0x47]
  | .asla => [0x48]
  | .rola => [0x49]
  | .deca => [0x4A]
  | .inca => [0x4C]
  | .tsta => [0x4D]
  | .clra => [0x4F]
  | .negb => [0x50]
  | .comb => [0x53]
  | .lsrb => [0x54]
  | .rorb => [0x56]
  | .asrb => [0x57]
  | .aslb => [0x58]
  | .rolb => [0x59]
  | .decb => [0x5A]
  | .incb => [0x5C]
  | .tstb => [0x5D]
  | .clrb => [0x5F]
  | .swi2 => [0x10, 0x3F]
  | .swi3 => [0x11, 0x3F]

/-! The host's numbering of a table row. -/

/-- `n` bytes of a number, the least significant first. -/
def bytesOf : Nat → Nat → List Byte
  | 0, _ => []
  | n + 1, w => BitVec.ofNat 8 w :: bytesOf n (w / 256)

/-- The bytes of a row's word in memory order, padded with zeros to the longest instruction, 5 bytes. spec/opcode_table.json
numbers a page-2 or page-3 row with its prefix in bits 15..8 (match 0x1021), although the prefix is the byte at the lower
address; the other numbering puts it in bits 7..0. Whichever half holds the prefix byte goes first (log 13). -/
def tableBytes (nbits w : Nat) : List Byte :=
  if nbits = 16 ∧ (w / 256 % 256 = 0x10 ∨ w / 256 % 256 = 0x11) then
    [BitVec.ofNat 8 (w / 256), BitVec.ofNat 8 w, 0, 0, 0]
  else bytesOf 5 (w % 2 ^ nbits)

/-- The instruction the decoder reads from the word of a row of spec/opcode_table.json; none where it refuses. -/
def decodeTableWord (nbits w : Nat) : Option Instr :=
  match decode (tableBytes nbits w) with
  | .instr i _ _ => some i
  | .invalidOpcode _ => none
  | .illegalIndexed _ => none
  | .truncated => none

end Sys2Proof
end

