-- ==== Sys2Proof/Machine/Fetch.lean ====
section
/-! DEFINITION. Fetching an instruction's bytes through the logical bus (spec/30_encoding.md R131, R137, spec/20_memory.md
R114), and placing an instruction where the next fetch finds it. -/

namespace Sys2Proof.Machine

/-- `Fetch8()` (00 R11, 10 R35). -/
def State.fetch8 (s : State) : Byte × State :=
  let r := s.readByte s.regs.pc
  (r.1, { r.2 with regs := { r.2.regs with pc := s.regs.pc + 1 } })

/-- Fetch bytes after those already fetched until the decoder has its instruction, at most `n` of them. -/
def State.fetchMore (s : State) : Nat → List Byte → DecodeResult × State
  | 0, bs => (decode bs, s)
  | n + 1, bs =>
    let r := s.fetch8
    match decode (bs ++ [r.1]) with
    | .truncated => r.2.fetchMore n (bs ++ [r.1])
    | d => (d, r.2)

/-- `Decode()` (30 R131): an instruction is at most 5 bytes (30 R130). PC stands past the bytes fetched. -/
def State.fetchInstr (s : State) : DecodeResult × State := s.fetchMore 5 []

/-! Placing an instruction: how the model's interface loads a program (log 6). -/

/-- A byte placed in the RAM that a logical address below 0xFF00 reads, with the ROM overlay off where it hides it. -/
def State.placeByte (s : State) (a : Word) (v : Byte) : State :=
  let s1 := if (s.translate a).2.isSome then { s with sam := putBit s.sam 15 true } else s
  { s1 with ram := ramWrite s1.ram (s1.translate a).1 v }

/-- Bytes placed from a logical address on. -/
def State.placeBytes (s : State) (a : Word) : List Byte → State
  | [] => s
  | v :: rest => (s.placeByte a v).placeBytes (a + 1) rest

/-- A state whose next master tick is a CPU tick that fetches at PC: no halt, no pending cycles, no line asserted and no
source that this tick could assert, no queued input, and the master cycle just before a multiple of the divisor. -/
def State.readyToFetch (s : State) : State :=
  { s with
    pending := 0
    halt := .none
    hwHalt := false
    lines :=
      { nmiExt := false
        firq := { gimeTmr := false, gimeVbord := false, gimeEnv := false, ext := false }
        irq := { pia0Vsync := false, gimeTmr := false, gimeVbord := false, gimeEnv := false, ext := false }
        resetHost := false }
    gime := { s.gime with irqenr := 0, firqenr := 0, irqFlags := 0, firqFlags := 0 }
    pia := { s.pia with crb := putBit s.pia.crb 0 false }
    seq := { s.seq with masterCycle := s.seq.masterCycle / s.cpuDiv * s.cpuDiv + (s.cpuDiv - 1) }
    env := []
    periph := [] }

/-- PC where it leaves room for the longest instruction below the I/O window, else 0. -/
def placementPC (pc : Word) : Word := if pc.toNat + 5 ≤ 0xFF00 then pc else 0

end Sys2Proof.Machine
end

