-- ==== Sys2Proof/Machine/Interrupts.lean ====
section
/-! DEFINITION. The interrupt check and the service of NMI, FIRQ, IRQ and RESET (spec/60_exceptions.md R604 to R619). -/

namespace Sys2Proof.Machine

/-- The interrupt lines of the CPU (10 R39). -/
inductive CpuLine where
  | nmi
  | firq
  | irq
  | reset
deriving DecidableEq, Repr

/-- A source of the FIRQ line is set (10 R39). -/
def FirqSources.any (f : FirqSources) : Bool := f.gimeTmr || f.gimeVbord || f.gimeEnv || f.ext

/-- A source of the IRQ line is set (10 R39). -/
def IrqSources.any (q : IrqSources) : Bool := q.pia0Vsync || q.gimeTmr || q.gimeVbord || q.gimeEnv || q.ext

/-- A line is pending: its source mask is not empty (10 R39, 60 R605). -/
def State.linePending (s : State) : CpuLine → Bool
  | .nmi => s.lines.nmiExt
  | .firq => s.lines.firq.any
  | .irq => s.lines.irq.any
  | .reset => s.lines.resetHost

/-- The order of the check: NMI, FIRQ, IRQ, RESET, or RESET first with `RESET_FIRST` (60 R604, R605). -/
def State.lineOrder (s : State) : List CpuLine :=
  if s.params.resetFirst then [.reset, .nmi, .firq, .irq] else [.nmi, .firq, .irq, .reset]

/-- The service common to NMI, FIRQ and IRQ: the stacking, or the skip path after CWAI, then the masks, the vector and
the end of any soft halt (60 R606, R608, R609, R611, R615). -/
def State.service (s : State) (e : ExcEntry) (cost : Nat) : State :=
  let s1 := if s.halt = .cwaiWait then s.addCyc s.params.intCyclesSkip else (s.stackFrame e).addCyc cost
  (s1.enterHandler e).setHalt .none

/-- `lines[NMI] <- {}` (60 R607). -/
def State.clearNmi (s : State) : State := { s with lines := { s.lines with nmiExt := false } }

/-- `lines[RESET] <- {}` (60 R616). -/
def State.clearReset (s : State) : State := { s with lines := { s.lines with resetHost := false } }

/-- `ServiceNMI()` (60 R606, R607). -/
def State.serviceNmi (s : State) : State := (s.service nmiEntry s.params.intCyclesNmi).clearNmi

/-- `ServiceFIRQ()` (60 R609): clears no source bit. -/
def State.serviceFirq (s : State) : State := s.service firqEntry s.params.intCyclesFirq

/-- `ServiceIRQ()` (60 R611): clears no source bit. -/
def State.serviceIrq (s : State) : State := s.service irqEntry s.params.intCyclesIrq

/-- I = F = 1 and DP = 0 where `RESET_INIT_CC_DP` asks for it (60 R616, D16). -/
def State.resetInit (s : State) : State :=
  if s.params.resetInitCcDp then ((s.setFlag .i true).setFlag .f true).setDP 0 else s

/-- `ServiceRESET()` (60 R616). -/
def State.serviceReset (s : State) : State :=
  (((s.loadVector 0xFFFE).clearReset.addCyc Config.resetCycles).setHalt .none).resetInit

/-- A pending but masked FIRQ or IRQ ends a SYNC wait without service (60 R610, R612). -/
def State.releaseSync (s : State) : State := if s.halt = .syncWait then s.setHalt .none else s

/-- The check of the lines of a list in order; at most one service (60 R605). -/
def State.checkLines (s : State) : List CpuLine → State
  | [] => s
  | .nmi :: rest => if s.linePending .nmi then s.serviceNmi else s.checkLines rest
  | .firq :: rest =>
    if s.linePending .firq then
      if s.flag .f then (if s.params.maskedLineBlocks then s.releaseSync else s.releaseSync.checkLines rest)
      else s.serviceFirq
    else s.checkLines rest
  | .irq :: rest =>
    if s.linePending .irq then
      if s.flag .i then (if s.params.maskedLineBlocks then s.releaseSync else s.releaseSync.checkLines rest)
      else s.serviceIrq
    else s.checkLines rest
  | .reset :: rest => if s.linePending .reset then s.serviceReset else s.checkLines rest

/-- `InterruptCheck()` (60 R605). -/
def State.interruptCheck (s : State) : State := s.checkLines s.lineOrder

end Sys2Proof.Machine
end

