-- ==== Sys2Proof/Machine/Sequencer.lean ====
section
/-! DEFINITION. What the master-clock sequencer does before the CPU tick: the environment's inputs, the counters, the GIME
timer and events, the VSYNC event, the peripherals (spec/60_exceptions.md R630 to R672). -/

namespace Sys2Proof.Machine

/-- The GIME events (60 R645, 10 R48). -/
inductive GimeEv where
  | tmr
  | vbord
  | env (k : EnvGime)
deriving DecidableEq, Repr

/-- The bit of an environment event (10 R48). -/
def envGimeBit : EnvGime → Nat
  | .hbord => 4
  | .ei2 => 2
  | .ei1 => 1
  | .ei0 => 0

/-- The bit of an event in the masks and the latches (10 R48). -/
def gimeBit : GimeEv → Nat
  | .tmr => 5
  | .vbord => 3
  | .env k => envGimeBit k

/-- The IRQ line with the source bit of an event set (60 R645). -/
def IrqSources.raise (q : IrqSources) : GimeEv → IrqSources
  | .tmr => { q with gimeTmr := true }
  | .vbord => { q with gimeVbord := true }
  | .env _ => { q with gimeEnv := true }

/-- The FIRQ line with the source bit of an event set (60 R645). -/
def FirqSources.raise (f : FirqSources) : GimeEv → FirqSources
  | .tmr => { f with gimeTmr := true }
  | .vbord => { f with gimeVbord := true }
  | .env _ => { f with gimeEnv := true }

/-- The IRQ half of an event is enabled: IRQENR's bit, gated by INIT0 bit 5 (60 R645, D32). -/
def State.irqEnabled (s : State) (k : GimeEv) : Bool :=
  s.gime.irqenr.getLsbD (gimeBit k) && (!s.params.gimeMasterGate || s.ien)

/-- The FIRQ half of an event is enabled: FIRQENR's bit, gated by INIT0 bit 4 (60 R645, D32). -/
def State.firqEnabled (s : State) (k : GimeEv) : Bool :=
  s.gime.firqenr.getLsbD (gimeBit k) && (!s.params.gimeMasterGate || s.fen)

/-- The IRQ half of `GimeEvent(k)`: the latch bit and the source bit (60 R645). -/
def State.raiseIrq (s : State) (k : GimeEv) : State :=
  { s with
    gime := { s.gime with irqFlags := putBit s.gime.irqFlags (gimeBit k) true }
    lines := { s.lines with irq := s.lines.irq.raise k } }

/-- The FIRQ half of `GimeEvent(k)`: the latch bit and the source bit (60 R645). -/
def State.raiseFirq (s : State) (k : GimeEv) : State :=
  { s with
    gime := { s.gime with firqFlags := putBit s.gime.firqFlags (gimeBit k) true }
    lines := { s.lines with firq := s.lines.firq.raise k } }

/-- `GimeEvent(k)` (60 R645). -/
def State.gimeEvent (s : State) (k : GimeEv) : State :=
  let s1 := if s.irqEnabled k then s.raiseIrq k else s
  if s.firqEnabled k then s1.raiseFirq k else s1

/-- Write the running counter of the timer. -/
def State.setTimerCount (s : State) (n : Nat) : State := { s with gime := { s.gime with timerCount := n } }

/-- `blink <- not blink` (60 R641). -/
def State.toggleBlink (s : State) : State := { s with gime := { s.gime with blink := !s.gime.blink } }

/-- The timer reaching zero: reload, blink, event 5 (60 R641, R642). -/
def State.timerExpire (s : State) : State :=
  ((s.setTimerCount (timerReload s.gime.timerValue)).toggleBlink).gimeEvent .tmr

/-- `TimerDecrement()` (60 R641, R643). -/
def State.timerDecrement (s : State) : State :=
  if s.params.timerZeroStops && s.gime.timerValue == 0 then s
  else if s.gime.timerCount - 1 = 0 then s.timerExpire
  else s.setTimerCount (s.gime.timerCount - 1)

/-- `PiaVsyncEvent()` (60 R650). -/
def State.piaVsyncEvent (s : State) : State :=
  { s with
    pia := { s.pia with vsyncFlag := true }
    lines := { s.lines with irq := { s.lines.irq with pia0Vsync := s.lines.irq.pia0Vsync || s.pia.crb.getLsbD 0 } } }

/-- The VSYNC position is reached (60 R650). -/
def State.vsyncDue (s : State) : Bool :=
  decide (s.seq.dot = Config.vsyncDot.val) && decide (s.seq.scanline = Config.vsyncLine.val)

/-- The VSYNC check of a master tick, field by field: the same state as `if vsyncDue then piaVsyncEvent else s`
(`Sys2Proof.Machine.piaVsyncTick_eq`), written so that the fields the event leaves do not depend on the OPEN position
(60 R630, R650; log 19). -/
def State.piaVsyncTick (s : State) : State :=
  { s with
    pia := { s.pia with vsyncFlag := s.pia.vsyncFlag || s.vsyncDue }
    lines :=
      { s.lines with
        irq := { s.lines.irq with pia0Vsync := s.lines.irq.pia0Vsync || (s.pia.crb.getLsbD 0 && s.vsyncDue) } } }

/-- `masterCycle <- masterCycle + 1; dot <- dot + 1`, and at the wraps the dot and the scanline (60 R630, R631). -/
def nextCounters (q : Sequencer) : Sequencer :=
  if q.dot + 1 = Config.dotsPerLine then
    { masterCycle := q.masterCycle + 1
      dot := 0
      scanline := if q.scanline + 1 = Config.linesPerFrame then 0 else q.scanline + 1 }
  else { q with masterCycle := q.masterCycle + 1, dot := q.dot + 1 }

/-- The counters advanced (60 R630). -/
def State.advanceCounters (s : State) : State := { s with seq := nextCounters s.seq }

/-- `PiaFrameWrap()`: nothing (60 R651, D40). -/
def State.piaFrameWrap (s : State) : State := s

/-- The events of a line wrap: the frame wrap, the slow timer, the vertical border (60 R630, R640, R647). -/
def State.lineWrapEvents (s : State) : State :=
  let s1 := if s.seq.scanline = 0 then s.piaFrameWrap else s
  let s2 := if s1.timerFast then s1 else s1.timerDecrement
  if s2.seq.scanline = Config.vbordLine then s2.gimeEvent .vbord else s2

/-- The fast timer's decrement, every `FAST_TIMER_DIV` master cycles with TINS = 1 (60 R630, R640). -/
def State.fastTimerTick (s : State) : State :=
  if s.timerFast && s.seq.masterCycle % Config.fastTimerDiv == 0 then s.timerDecrement else s

/-- Set or clear an external line bit (60 R662). -/
def State.setExtLine (s : State) (l : ExtLine) (b : Bool) : State :=
  match l with
  | .irq => { s with lines := { s.lines with irq := { s.lines.irq with ext := b } } }
  | .firq => { s with lines := { s.lines with firq := { s.lines.firq with ext := b } } }
  | .nmi => { s with lines := { s.lines with nmiExt := b } }

/-- Write `hwHalt` (60 R662, R671). -/
def State.setHwHalt (s : State) (b : Bool) : State := { s with hwHalt := b }

/-- Add `HOST_RESET` to the RESET line (60 R674). -/
def State.raiseReset (s : State) : State := { s with lines := { s.lines with resetHost := true } }

/-- `forcePC(address)` (60 R675). -/
def State.forcePC (s : State) (a : Word) : State := { s with regs := { s.regs with pc := a } }

/-- One input of the environment (60 R662, R674 to R676). -/
def State.envInput (s : State) : EnvInput → State
  | .line l b => s.setExtLine l b
  | .gime k => s.gimeEvent (.env k)
  | .hwHalt b => s.setHwHalt b
  | .hostReset => s.raiseReset
  | .forcePC a => s.forcePC a
  | .loadByte p v => s.physWrite p v

/-- One act of a peripheral inside its poll (60 R671, R672). -/
def State.periphAct (s : State) : PeriphAction → State
  | .assertNmi => s.setExtLine .nmi true
  | .hwHalt b => s.setHwHalt b
  | .physWrite p v => s.physWrite p v

/-- The inputs that arrive before a master tick: the head of the queue, in order (60 R662; log 10). -/
def State.applyEnv (s : State) : State :=
  match s.env with
  | [] => s
  | batch :: rest => batch.foldl State.envInput { s with env := rest }

/-- The peripherals' polls of a master tick: the head of the queue, in order (60 R671; log 10). -/
def State.pollPeripherals (s : State) : State :=
  match s.periph with
  | [] => s
  | batch :: rest => batch.foldl State.periphAct { s with periph := rest }

/-- Everything of `MasterTick()` before the CPU's tick (60 R630). The dot is 0 after the counters advance exactly when the
line has wrapped. -/
def State.sequence (s : State) : State :=
  let s1 := s.advanceCounters
  let s2 := if s.seq.dot + 1 = Config.dotsPerLine then s1.lineWrapEvents else s1
  (s2.piaVsyncTick.fastTimerTick).pollPeripherals

end Sys2Proof.Machine
end

