-- ==== Sys2Proof/Machine/Tick.lean ====
section
/-! DEFINITION. The CPU's step and tick, and the master tick (spec/60_exceptions.md R600 to R603, R630). -/

namespace Sys2Proof.Machine

/-- An instruction's opcode, with its prefix before it: the key of `CYCLES` (00 R7). -/
def opcodeNumber (i : Instr) : Nat :=
  match encode i with
  | [] => 0
  | [b] => b.toNat
  | b :: c :: _ => if b = 0x10 ∨ b = 0x11 then b.toNat * 0x100 + c.toNat else b.toNat

/-- `CYCLES(entry)` (00 R7, 60 R603): the table's figure, unless the installation's differs. -/
def State.rowCycles (s : State) (i : Instr) : Nat := (s.params.cycles.lookup (opcodeNumber i)).getD (baseCycles i)

/-- The cycles of a fetched instruction before its operand and its own extras: its row's base, and the fallback's
(60 R602, R603). -/
def State.fetchCycles (s : State) (i : Instr) (fallbackUsed : Bool) : Nat :=
  s.rowCycles i + (if fallbackUsed then s.params.fallbackExtraCycles else 0)

/-- An undefined indexed postbyte: what `ILLEGAL_INDEXED` says (30 R170, D7). -/
def State.illegalPostbyte (s : State) : Result :=
  match s.params.illegalIndexed with
  | .fault => .fault .illegalIndexed
  | .refuse => .refused .illegalIndexed

/-- What a fetched instruction does (60 R602): run it; or halt on an undefined opcode, at cost 1 (30 R136, 60 R603, D57);
or what `ILLEGAL_INDEXED` says of an undefined postbyte. Five bytes are never too few (log 18). -/
def runFetched (d : DecodeResult) (s : State) : Result :=
  match d with
  | .instr i fallbackUsed _ => exec i (s.addCyc (s.fetchCycles i fallbackUsed))
  | .invalidOpcode _ => .next ((s.setHalt .invalidOpcode).addCyc 1)
  | .illegalIndexed _ => s.illegalPostbyte
  | .truncated => .next ((s.setHalt .invalidOpcode).addCyc 1)

/-- A step that stays soft-halted: 1 cycle where nothing was serviced (60 R602, R603, D68). -/
def State.haltedStep (s : State) : State := if s.cyc = 0 then s.addCyc 1 else s

/-- `Step()` (60 R602). -/
def State.cpuStep (s : State) : Result :=
  let s1 := s.interruptCheck
  if s1.halt = .none then runFetched s1.fetchInstr.1 s1.fetchInstr.2 else .next s1.haltedStep

/-- `pending <- cyc - 1` (60 R600). -/
def State.chargeStep (s : State) : State := { s with pending := s.cyc - 1 }

/-- `cyc <- 0` (60 R600). -/
def State.startStep (s : State) : State := { s with cyc := 0 }

/-- `tick()` (60 R600, R601). -/
def State.cpuTick (s : State) : Result :=
  if s.hwHalt then .next s
  else if 0 < s.pending then .next { s with pending := s.pending - 1 }
  else
    match s.startStep.cpuStep with
    | .next t => .next t.chargeStep
    | .fault f => .fault f
    | .refused r => .refused r

/-- One master tick: the inputs that arrived before it, then `MasterTick()` (60 R630, R662). -/
def State.masterTick (s : State) : Result :=
  let s1 := s.applyEnv.sequence
  if s1.seq.masterCycle % s1.cpuDiv = 0 then s1.cpuTick else .next s1

end Sys2Proof.Machine
end

