-- ==== Sys2Proof/Machine/Step.lean ====
section
/-! DEFINITION. The machine's step, one master tick (log 11), and the state whose next step runs a given instruction
(log 6). -/

namespace Sys2Proof.Machine

/-- One step of the machine: one master tick (60 R630). -/
def step (s : State) : Host.Outcome State Fault Refusal := s.masterTick

/-- `s` with an instruction's bytes stored where the next step fetches, and made ready to fetch (log 6). -/
def State.withFetchWord (s : State) (nbits w : Nat) : State :=
  let s1 := s.readyToFetch
  let pc := placementPC s1.regs.pc
  ({ s1 with regs := { s1.regs with pc := pc } }).placeBytes pc (tableBytes nbits w)

end Sys2Proof.Machine
end

