-- ==== Sys2Proof/Safety.lean ====
section
/-! DEFINITION. The terms of the statements: the invariant of a run, what a step leaves unchanged, and the instruction
families by name. Nothing here is used by the machine. -/

namespace Sys2Proof.Safety

open Sys2Proof.Machine

/-! What stays as it was. -/

/-- The registers but CC, by name (10 R30). -/
inductive RegName where
  | a
  | b
  | dp
  | x
  | y
  | u
  | s
  | pc
deriving DecidableEq, Repr

/-- The value of a named register, an 8-bit one extended with zeros. -/
def readReg (g : Regs) : RegName → Word
  | .a => zext8 g.a
  | .b => zext8 g.b
  | .dp => zext8 g.dp
  | .x => g.x
  | .y => g.y
  | .u => g.u
  | .s => g.s
  | .pc => g.pc

/-- Every register but CC and the listed ones has the same value in both states. -/
def RegsKept (s t : State) (written : List RegName) : Prop :=
  ∀ q, q ∉ written → readReg t.regs q = readReg s.regs q

/-- The listed flags have the listed values after, and every other flag its value from before (00 R12). -/
def FlagsSet (s t : State) (fl : List (Flag × Bool)) : Prop :=
  (∀ p ∈ fl, t.flag p.1 = p.2) ∧ ∀ k, k ∉ fl.map Prod.fst → t.flag k = s.flag k

/-- Every byte of RAM but those at the listed addresses reads the same in both states. -/
def RamKept (s t : State) (stored : List Nat) : Prop := ∀ p, p ∉ stored → ramRead t.ram p = ramRead s.ram p

/-- Everything but the registers, RAM and the step's cycle total is the same: the soft and hardware halts, `pending`, the
lines, every GIME, SAM and PIA register, the counters, the ROM images, the parameters, the queues and the count of draws. -/
def SystemKept (s t : State) : Prop := t = { s with regs := t.regs, cyc := t.cyc, ram := t.ram }

/-- What bus reads may do to the rest of the machine: acknowledge the VSYNC latch, the GIME IRQ latch, the GIME FIRQ latch
(20 R103, R108, R110), and draw free values. -/
def afterReads (vsync gimeIrq gimeFirq : Bool) (n : Nat) (s : State) : State :=
  let s1 := if vsync then s.ackVsync else s
  let s2 := if gimeIrq then s1.ackGimeIrq else s1
  let s3 := if gimeFirq then s2.ackGimeFirq else s2
  { s3 with draws := s3.draws + n }

/-- Apart from the registers, RAM and the cycle total, `t` differs from `s` by the effects of bus reads only. -/
def ReadEffect (s t : State) : Prop := ∃ v q f n, SystemKept (afterReads v q f n s) t

/-- An instruction that stores nothing and leaves, after its operand is read (state `r`), only the registers `written` and
the flags changed: `auto` is the index register its operand advances. -/
structure OperandFrame (s r t : State) (auto written : List RegName) : Prop where
  afterOperand : RegsKept r t written
  registers : RegsKept s t (written ++ auto)
  memory : RamKept s t []
  system : SystemKept r t
  reads : ReadEffect s t
  cycles : t.cyc = r.cyc

/-! The index register an operand advances (30 R162, R163). -/

/-- The name of a base register. -/
def nameOf : IdxReg → RegName
  | .x => .x
  | .y => .y
  | .u => .u
  | .s => .s

/-- The register a sub-mode writes back. -/
def autoOfMode : IdxMode → List RegName
  | .postInc1 r => [nameOf r]
  | .postInc2 r => [nameOf r]
  | .preDec1 r => [nameOf r]
  | .preDec2 r => [nameOf r]
  | .off5 _ _ => []
  | .zero _ => []
  | .accB _ => []
  | .accA _ => []
  | .accD _ => []
  | .off8 _ _ => []
  | .off16 _ _ => []
  | .pcr8 _ => []
  | .pcr16 _ => []
  | .ext _ => []

/-- The register a memory operand writes back. -/
def autoOf : MemOp → List RegName
  | .dir _ => []
  | .idx ix => autoOfMode ix.mode
  | .ext _ => []

/-- The register an 8-bit operand writes back. -/
def auto8 : Src8 → List RegName
  | .imm _ => []
  | .mem m => autoOf m

/-- The register a 16-bit operand writes back. -/
def auto16 : Src16 → List RegName
  | .imm _ => []
  | .mem m => autoOf m

/-- The cycles an operand adds to its row's base (30 R172). -/
def memCycles : MemOp → Nat
  | .dir _ => 0
  | .idx ix => indexedDelta ix
  | .ext _ => 0

/-- The cycles an 8-bit operand adds (30 R172). -/
def cycles8 : Src8 → Nat
  | .imm _ => 0
  | .mem m => memCycles m

/-- The cycles a 16-bit operand adds (30 R172). -/
def cycles16 : Src16 → Nat
  | .imm _ => 0
  | .mem m => memCycles m

/-! The instruction families. -/

/-- The register name of an accumulator. -/
def accName : Acc → RegName
  | .a => .a
  | .b => .b

/-- The register names of a 16-bit register. -/
def reg16Names : Reg16 → List RegName
  | .d => [.a, .b]
  | .x => [.x]
  | .y => [.y]
  | .u => [.u]
  | .s => [.s]

/-- LDA, LDB. -/
def loadByte : Acc → Src8 → Instr
  | .a => Instr.lda
  | .b => Instr.ldb

/-- LDD, LDX, LDY, LDU, LDS. -/
def loadWord : Reg16 → Src16 → Instr
  | .d => Instr.ldd
  | .x => Instr.ldx
  | .y => Instr.ldy
  | .u => Instr.ldu
  | .s => Instr.lds

/-- STA, STB. -/
def storeByte : Acc → MemOp → Instr
  | .a => Instr.sta
  | .b => Instr.stb

/-- STD, STX, STY, STU, STS. -/
def storeWord : Reg16 → MemOp → Instr
  | .d => Instr.std
  | .x => Instr.stx
  | .y => Instr.sty
  | .u => Instr.stu
  | .s => Instr.sts

/-- LEAX, LEAY, LEAU, LEAS. -/
def lea : IdxReg → Indexed → Instr
  | .x => Instr.leax
  | .y => Instr.leay
  | .u => Instr.leau
  | .s => Instr.leas

/-- ADDA, ADDB, and with the carry ADCA, ADCB. -/
def addInstr : Acc → Bool → Src8 → Instr
  | .a, false => Instr.adda
  | .b, false => Instr.addb
  | .a, true => Instr.adca
  | .b, true => Instr.adcb

/-- SUBA, SUBB, and with the carry SBCA, SBCB. -/
def subInstr : Acc → Bool → Src8 → Instr
  | .a, false => Instr.suba
  | .b, false => Instr.subb
  | .a, true => Instr.sbca
  | .b, true => Instr.sbcb

/-- CMPA, CMPB. -/
def cmpInstr : Acc → Src8 → Instr
  | .a => Instr.cmpa
  | .b => Instr.cmpb

/-- BITA, BITB. -/
def bitInstr : Acc → Src8 → Instr
  | .a => Instr.bita
  | .b => Instr.bitb

/-- The logic operations. -/
inductive LogicOp where
  | and
  | or
  | eor
deriving DecidableEq, Repr

/-- ANDA, ANDB, ORA, ORB, EORA, EORB. -/
def logicInstr : LogicOp → Acc → Src8 → Instr
  | .and, .a => Instr.anda
  | .and, .b => Instr.andb
  | .or, .a => Instr.ora
  | .or, .b => Instr.orb
  | .eor, .a => Instr.eora
  | .eor, .b => Instr.eorb

/-- The bit of a logic result from the bits of its operands (40 R206). -/
def logicBit : LogicOp → Bool → Bool → Bool
  | .and, p, q => p && q
  | .or, p, q => p || q
  | .eor, p, q => p != q

/-- CMPD, CMPX, CMPY, CMPU, CMPS. -/
def cmpWord : Reg16 → Src16 → Instr
  | .d => Instr.cmpd
  | .x => Instr.cmpx
  | .y => Instr.cmpy
  | .u => Instr.cmpu
  | .s => Instr.cmps

/-- The unary operations that write a result back (40 R208 to R212). -/
inductive UnaryOp where
  | neg
  | com
  | lsr
  | ror
  | asr
  | asl
  | rol
  | dec
  | inc
  | clr
deriving DecidableEq, Repr

/-- NEG, COM, LSR, ROR, ASR, ASL, ROL, DEC, INC, CLR on memory. -/
def unaryMem : UnaryOp → MemOp → Instr
  | .neg => Instr.neg
  | .com => Instr.com
  | .lsr => Instr.lsr
  | .ror => Instr.ror
  | .asr => Instr.asr
  | .asl => Instr.asl
  | .rol => Instr.rol
  | .dec => Instr.dec
  | .inc => Instr.inc
  | .clr => Instr.clr

/-- The same on an accumulator. -/
def unaryAcc : UnaryOp → Acc → Instr
  | .neg, .a => .nega
  | .neg, .b => .negb
  | .com, .a => .coma
  | .com, .b => .comb
  | .lsr, .a => .lsra
  | .lsr, .b => .lsrb
  | .ror, .a => .rora
  | .ror, .b => .rorb
  | .asr, .a => .asra
  | .asr, .b => .asrb
  | .asl, .a => .asla
  | .asl, .b => .aslb
  | .rol, .a => .rola
  | .rol, .b => .rolb
  | .dec, .a => .deca
  | .dec, .b => .decb
  | .inc, .a => .inca
  | .inc, .b => .incb
  | .clr, .a => .clra
  | .clr, .b => .clrb

/-- The result of a unary operation on `v` with the carry `c`, as exact arithmetic cut to 8 bits (40 R208 to R212). -/
def unaryResult (op : UnaryOp) (v : Byte) (c : Bool) : Byte :=
  match op with
  | .neg => BitVec.ofInt 8 (0 - v.toNat)
  | .com => BitVec.ofNat 8 (255 - v.toNat)
  | .lsr => BitVec.ofNat 8 (v.toNat / 2)
  | .ror => BitVec.ofNat 8 (v.toNat / 2 + 128 * c.toNat)
  | .asr => BitVec.ofNat 8 (v.toNat / 2 + 128 * v.msb.toNat)
  | .asl => BitVec.ofNat 8 (2 * v.toNat)
  | .rol => BitVec.ofNat 8 (2 * v.toNat + c.toNat)
  | .dec => BitVec.ofInt 8 (v.toNat - 1)
  | .inc => BitVec.ofNat 8 (v.toNat + 1)
  | .clr => 0

/-- The V and C a unary operation writes (40 R208 to R212). -/
def unaryVC (op : UnaryOp) (v : Byte) : List (Flag × Bool) :=
  match op with
  | .neg => [(.v, v == 0x80), (.c, v != 0)]
  | .com => [(.v, false), (.c, true)]
  | .lsr => [(.c, v.getLsbD 0)]
  | .ror => [(.c, v.getLsbD 0)]
  | .asr => [(.c, v.getLsbD 0)]
  | .asl => [(.v, v.getLsbD 7 != v.getLsbD 6), (.c, v.getLsbD 7)]
  | .rol => [(.v, v.getLsbD 7 != v.getLsbD 6), (.c, v.getLsbD 7)]
  | .dec => [(.v, v == 0x80)]
  | .inc => [(.v, v == 0x7F)]
  | .clr => [(.v, false), (.c, false)]

/-- Every flag a unary operation writes. -/
def unaryFlags (op : UnaryOp) (v : Byte) (c : Bool) : List (Flag × Bool) :=
  (.n, (unaryResult op v c).msb) :: (.z, unaryResult op v c == 0) :: unaryVC op v

/-- TSTA, TSTB. -/
def tstAcc : Acc → Instr
  | .a => .tsta
  | .b => .tstb

/-- The short branches, 0x20 to 0x2F. -/
def shortBranch : Cond → Byte → Instr
  | .always => Instr.bra
  | .never => Instr.brn
  | .hi => Instr.bhi
  | .ls => Instr.bls
  | .cc => Instr.bcc
  | .cs => Instr.bcs
  | .ne => Instr.bne
  | .eq => Instr.beq
  | .vc => Instr.bvc
  | .vs => Instr.bvs
  | .pl => Instr.bpl
  | .mi => Instr.bmi
  | .ge => Instr.bge
  | .lt => Instr.blt
  | .gt => Instr.bgt
  | .le => Instr.ble

/-- LBRA (16) and the long branches of page 2. -/
def longBranchInstr : Cond → Word → Instr
  | .always => Instr.lbra
  | .never => Instr.lbrn
  | .hi => Instr.lbhi
  | .ls => Instr.lbls
  | .cc => Instr.lbcc
  | .cs => Instr.lbcs
  | .ne => Instr.lbne
  | .eq => Instr.lbeq
  | .vc => Instr.lbvc
  | .vs => Instr.lbvs
  | .pl => Instr.lbpl
  | .mi => Instr.lbmi
  | .ge => Instr.lbge
  | .lt => Instr.lblt
  | .gt => Instr.lbgt
  | .le => Instr.lble

/-- When a branch is taken, as the table of 45 R450 gives it, of C, Z, N, V. -/
def taken (k : Cond) (c z n v : Bool) : Prop :=
  match k with
  | .always => True
  | .never => False
  | .hi => c = false ∧ z = false
  | .ls => c = true ∨ z = true
  | .cc => c = false
  | .cs => c = true
  | .ne => z = false
  | .eq => z = true
  | .vc => v = false
  | .vs => v = true
  | .pl => n = false
  | .mi => n = true
  | .ge => n = v
  | .lt => n ≠ v
  | .gt => z = false ∧ n = v
  | .le => z = true ∨ n ≠ v

/-! Stacks. -/

/-- The register name of a stack pointer. -/
def spName : Stack → RegName
  | .s => .s
  | .u => .u

/-- The bytes a push of a mask writes, in the order written: PC, the other pointer, Y, X, DP, B, A, CC, each word low byte
first (46 R500). -/
def stackImage (k : Stack) (mask : Byte) (g : Regs) : List Byte :=
  let other := match k with
    | .s => g.u
    | .u => g.s
  (if mask.getLsbD 7 then [loByte g.pc, hiByte g.pc] else []) ++
  (if mask.getLsbD 6 then [loByte other, hiByte other] else []) ++
  (if mask.getLsbD 5 then [loByte g.y, hiByte g.y] else []) ++
  (if mask.getLsbD 4 then [loByte g.x, hiByte g.x] else []) ++
  (if mask.getLsbD 3 then [g.dp] else []) ++
  (if mask.getLsbD 2 then [g.b] else []) ++
  (if mask.getLsbD 1 then [g.a] else []) ++
  (if mask.getLsbD 0 then [g.cc] else [])

/-- The state after pushing bytes in order, each with `Push8` (00 R11). -/
def pushAll (k : Stack) (s : State) (bytes : List Byte) : State := bytes.foldl (fun t v => t.push8 k v) s

/-- The RAM addresses those pushes store to, each computed in the state its push finds. -/
def pushTargets (k : Stack) (s : State) : List Byte → List Nat
  | [] => []
  | v :: rest => ((s.setSp k (s.sp k - 1)).storeAddr (s.sp k - 1)).toList ++ pushTargets k (s.push8 k v) rest

/-- `n` bytes pulled in order, each with `Pull8` (00 R11), and the state after. -/
def pullSeq (k : Stack) (s : State) : Nat → List Byte × State
  | 0 => ([], s)
  | n + 1 => ((s.pull8 k).1 :: (pullSeq k (s.pull8 k).2 n).1, (pullSeq k (s.pull8 k).2 n).2)

/-- The position, among the bytes a pull of a mask reads, of the register of bit `i`: the bytes of the lower bits come
first (46 R501). -/
def pullOffset (mask : Byte) (i : Nat) : Nat := stackBytes (mask &&& BitVec.ofNat 8 (2 ^ i - 1))

/-- The byte at a position of a pull. -/
def byteAt (bytes : List Byte) (n : Nat) : Byte := bytes.getD n 0

/-- The big-endian word at a position of a pull. -/
def wordAt (bytes : List Byte) (n : Nat) : Word := joinBytes (byteAt bytes n) (byteAt bytes (n + 1))

/-- The registers after a pull of a mask that read these bytes: a register the mask selects gets the byte, or the big-endian
word, at its position; the pointer is higher by the number of bytes (46 R501). -/
def pulledRegs (k : Stack) (mask : Byte) (bytes : List Byte) (g : Regs) : Regs :=
  let sel := fun (i : Nat) (old : Byte) => if mask.getLsbD i then byteAt bytes (pullOffset mask i) else old
  let selw := fun (i : Nat) (old : Word) => if mask.getLsbD i then wordAt bytes (pullOffset mask i) else old
  let n := BitVec.ofNat 16 (stackBytes mask)
  { cc := sel 0 g.cc
    a := sel 1 g.a
    b := sel 2 g.b
    dp := sel 3 g.dp
    x := selw 4 g.x
    y := selw 5 g.y
    u := if k = .s then selw 6 g.u else g.u + n
    s := if k = .s then g.s + n else selw 6 g.s
    pc := selw 7 g.pc }

/-- PSHS, PSHU. -/
def pushInstr : Stack → Byte → Instr
  | .s => Instr.pshs
  | .u => Instr.pshu

/-- PULS, PULU. -/
def pullInstr : Stack → Byte → Instr
  | .s => Instr.puls
  | .u => Instr.pulu

/-- `n` bytes from a logical address on are below the I/O window, are not ROM, and lie at distinct RAM addresses: a store
to each reads back and disturbs no other. -/
def PlainRam (s : State) (a : Word) (n : Nat) : Prop :=
  (∀ j, j < n → (a + BitVec.ofNat 16 j).toNat < 0xFF00 ∧ (s.translate (a + BitVec.ofNat 16 j)).2 = none) ∧
  ∀ i j, i < n → j < n → i ≠ j →
    (s.translate (a + BitVec.ofNat 16 i)).1 ≠ (s.translate (a + BitVec.ofNat 16 j)).1

/-- What a push of bytes on S leaves: the pointer moved by their number, the other registers, and RAM outside the bytes'
addresses. -/
structure PushEffect (k : Stack) (s t : State) (bytes : List Byte) : Prop where
  pointer : t.sp k = s.sp k - BitVec.ofNat 16 bytes.length
  registers : RegsKept s t [spName k]
  memory : RamKept s t (pushTargets k s bytes)
  system : SystemKept (pushAll k s bytes) t

/-- What a call leaves, from the state `r` in which its target is known: the target in PC, the return address
pushed, its low byte first and so at the higher address (00 R11 `Push16`). -/
structure CallEffect (s r t : State) (target : Word) (auto : List RegName) : Prop where
  pc : t.regs.pc = target
  pointer : t.regs.s = r.regs.s - 2
  afterOperand : RegsKept r t [.s, .pc]
  registers : RegsKept s t ([.s, .pc] ++ auto)
  flags : FlagsSet s t []
  memory : RamKept s t (pushTargets .s r [loByte r.regs.pc, hiByte r.regs.pc])
  stored : t.ram = (pushAll .s r [loByte r.regs.pc, hiByte r.regs.pc]).ram
  system : SystemKept (pushAll .s r [loByte r.regs.pc, hiByte r.regs.pc]) t
  cycles : t.cyc = r.cyc

/-- The bytes an exception entry stacks on S: the registers of the mask, with E as the entry sets it (46 R500, 60 R613). -/
def frameBytes (s : State) (eFlag : Bool) (mask : Byte) : List Byte :=
  stackImage .s mask { s.regs with cc := ccPut s.regs.cc .e eFlag }

/-- What an exception entry with stacking leaves of registers, flags and RAM; the vector's two bytes come from the internal
ROM at `vectorOffset` (60 R614). -/
structure EntryEffect (s t : State) (eFlag : Bool) (mask : Byte) (fl : List (Flag × Bool)) (vectorOffset : Nat) :
    Prop where
  pc : t.regs.pc = joinBytes (s.intRom vectorOffset) (s.intRom (vectorOffset + 1))
  pointer : t.regs.s = s.regs.s - BitVec.ofNat 16 (stackBytes mask)
  registers : RegsKept s t [.s, .pc]
  flags : FlagsSet s t fl
  memory : RamKept s t (pushTargets .s s (frameBytes s eFlag mask))

/-- SWI, SWI2, SWI3 with the flags they set and the offset of their vector in the internal ROM (46 R508 to R510). -/
def softwareInterrupts : List (Instr × List (Flag × Bool) × Nat) :=
  [(.swi, [(.e, true), (.i, true), (.f, true)], 0x7FFA), (.swi2, [(.e, true)], 0x7FF4), (.swi3, [(.e, true)], 0x7FF2)]

/-- The registers after RESET service: the vector in PC, and with `RESET_INIT_CC_DP` I and F set and DP 0 (60 R616). -/
def resetRegs (s : State) : Regs :=
  let g := { s.regs with pc := joinBytes (s.intRom 0x7FFE) (s.intRom 0x7FFF) }
  if s.params.resetInitCcDp then { g with cc := g.cc ||| 0x50, dp := 0 } else g

/-- RESET is not served before NMI: `RESET_FIRST` is false, or RESET is not pending (60 R604). -/
def ResetWaits (s : State) : Prop := s.params.resetFirst = false ∨ s.lines.resetHost = false

/-- FIRQ has nothing to serve: not pending, or F = 1 (60 R610). -/
def FirqIdle (s : State) : Prop := s.lines.firq.any = false ∨ s.flag .f = true

/-- IRQ has nothing to serve: not pending, or I = 1 (60 R612). -/
def IrqIdle (s : State) : Prop := s.lines.irq.any = false ∨ s.flag .i = true

/-- A pending FIRQ with F = 1 ends the check: `MASKED_LINE_BLOCKS` (60 R604, R605). -/
def FirqBlocks (s : State) : Prop :=
  s.params.maskedLineBlocks = true ∧ s.lines.firq.any = true ∧ s.flag .f = true

/-- A pending IRQ with I = 1 ends the check: `MASKED_LINE_BLOCKS` (60 R604, R605). -/
def IrqBlocks (s : State) : Prop :=
  s.params.maskedLineBlocks = true ∧ s.lines.irq.any = true ∧ s.flag .i = true

/-! Encodings. -/

/-- The indexed rows 30 and 60 of page 1 (30 R138). -/
def indexedRows36 : List (List Byte × (Indexed → Instr)) :=
  [([0x30], .leax), ([0x31], .leay), ([0x32], .leas), ([0x33], .leau), ([0x60], .negIdx), ([0x63], .comIdx),
   ([0x64], .lsrIdx), ([0x66], .rorIdx), ([0x67], .asrIdx), ([0x68], .aslIdx), ([0x69], .rolIdx), ([0x6A], .decIdx),
   ([0x6C], .incIdx), ([0x6D], .tstIdx), ([0x6E], .jmpIdx), ([0x6F], .clrIdx)]

/-- The indexed row A0 of page 1 (30 R138). -/
def indexedRowsA : List (List Byte × (Indexed → Instr)) :=
  [([0xA0], .subaIdx), ([0xA1], .cmpaIdx), ([0xA2], .sbcaIdx), ([0xA3], .subdIdx), ([0xA4], .andaIdx),
   ([0xA5], .bitaIdx), ([0xA6], .ldaIdx), ([0xA7], .staIdx), ([0xA8], .eoraIdx), ([0xA9], .adcaIdx),
   ([0xAA], .oraIdx), ([0xAB], .addaIdx), ([0xAC], .cmpxIdx), ([0xAD], .jsrIdx), ([0xAE], .ldxIdx), ([0xAF], .stxIdx)]

/-- The indexed row E0 of page 1 (30 R138). -/
def indexedRowsE : List (List Byte × (Indexed → Instr)) :=
  [([0xE0], .subbIdx), ([0xE1], .cmpbIdx), ([0xE2], .sbcbIdx), ([0xE3], .adddIdx), ([0xE4], .andbIdx),
   ([0xE5], .bitbIdx), ([0xE6], .ldbIdx), ([0xE7], .stbIdx), ([0xE8], .eorbIdx), ([0xE9], .adcbIdx),
   ([0xEA], .orbIdx), ([0xEB], .addbIdx), ([0xEC], .lddIdx), ([0xED], .stdIdx), ([0xEE], .lduIdx), ([0xEF], .stuIdx)]

/-- The indexed rows of pages 2 and 3 (30 R139, R140). -/
def indexedRows23 : List (List Byte × (Indexed → Instr)) :=
  [([0x10, 0xA3], .cmpdIdx), ([0x10, 0xAC], .cmpyIdx), ([0x10, 0xAE], .ldyIdx), ([0x10, 0xAF], .styIdx),
   ([0x10, 0xEE], .ldsIdx), ([0x10, 0xEF], .stsIdx), ([0x11, 0xA3], .cmpuIdx), ([0x11, 0xAC], .cmpsIdx)]

/-- The rows with an indexed operand, of the three pages: the prefix and opcode bytes, and the instruction of each operand
(30 R138 to R140). -/
def indexedRows : List (List Byte × (Indexed → Instr)) := indexedRows36 ++ indexedRowsA ++ indexedRowsE ++ indexedRows23

/-! The opcode maps of 30 R138 to R140: an opcode, with its prefix in the high byte, its operand format and instruction, and
its base cycles. -/

/-- Row 00 of page 1 (30 R138). -/
def map1Row0 : List (Nat × Entry × Nat) :=
  [(0x00, .byte .negDir, 6), (0x03, .byte .comDir, 6), (0x04, .byte .lsrDir, 6), (0x06, .byte .rorDir, 6),
   (0x07, .byte .asrDir, 6), (0x08, .byte .aslDir, 6), (0x09, .byte .rolDir, 6), (0x0A, .byte .decDir, 6),
   (0x0C, .byte .incDir, 6), (0x0D, .byte .tstDir, 6), (0x0E, .byte .jmpDir, 3), (0x0F, .byte .clrDir, 6)]

/-- Row 10 of page 1 (30 R138). -/
def map1Row1 : List (Nat × Entry × Nat) :=
  [(0x12, .inh .nop, 2), (0x13, .inh .sync, 4), (0x16, .word .lbra, 5), (0x17, .word .lbsr, 9), (0x19, .inh .daa, 2),
   (0x1A, .byte .orcc, 3), (0x1C, .byte .andcc, 3), (0x1D, .inh .sex, 2), (0x1E, .regs .exg, 8),
   (0x1F, .regs .tfr, 6)]

/-- Row 20 of page 1 (30 R138). -/
def map1Row2 : List (Nat × Entry × Nat) :=
  [(0x20, .byte .bra, 3), (0x21, .byte .brn, 3), (0x22, .byte .bhi, 3), (0x23, .byte .bls, 3), (0x24, .byte .bcc, 3),
   (0x25, .byte .bcs, 3), (0x26, .byte .bne, 3), (0x27, .byte .beq, 3), (0x28, .byte .bvc, 3), (0x29, .byte .bvs, 3),
   (0x2A, .byte .bpl, 3), (0x2B, .byte .bmi, 3), (0x2C, .byte .bge, 3), (0x2D, .byte .blt, 3), (0x2E, .byte .bgt, 3),
   (0x2F, .byte .ble, 3)]

/-- Row 30 of page 1 (30 R138). -/
def map1Row3 : List (Nat × Entry × Nat) :=
  [(0x30, .idx .leax, 4), (0x31, .idx .leay, 4), (0x32, .idx .leas, 4), (0x33, .idx .leau, 4),
   (0x34, .byte .pshs, 5), (0x35, .byte .puls, 5), (0x36, .byte .pshu, 5), (0x37, .byte .pulu, 5),
   (0x39, .inh .rts, 5), (0x3A, .inh .abx, 3), (0x3B, .inh .rti, 6), (0x3C, .byte .cwai, 20), (0x3D, .inh .mul, 11),
   (0x3F, .inh .swi, 19)]

/-- Row 40 of page 1 (30 R138). -/
def map1Row4 : List (Nat × Entry × Nat) :=
  [(0x40, .inh .nega, 2), (0x43, .inh .coma, 2), (0x44, .inh .lsra, 2), (0x46, .inh .rora, 2), (0x47, .inh .asra, 2),
   (0x48, .inh .asla, 2), (0x49, .inh .rola, 2), (0x4A, .inh .deca, 2), (0x4C, .inh .inca, 2), (0x4D, .inh .tsta, 2),
   (0x4F, .inh .clra, 2)]

/-- Row 50 of page 1 (30 R138). -/
def map1Row5 : List (Nat × Entry × Nat) :=
  [(0x50, .inh .negb, 2), (0x53, .inh .comb, 2), (0x54, .inh .lsrb, 2), (0x56, .inh .rorb, 2), (0x57, .inh .asrb, 2),
   (0x58, .inh .aslb, 2), (0x59, .inh .rolb, 2), (0x5A, .inh .decb, 2), (0x5C, .inh .incb, 2), (0x5D, .inh .tstb, 2),
   (0x5F, .inh .clrb, 2)]

/-- Row 60 of page 1 (30 R138). -/
def map1Row6 : List (Nat × Entry × Nat) :=
  [(0x60, .idx .negIdx, 6), (0x63, .idx .comIdx, 6), (0x64, .idx .lsrIdx, 6), (0x66, .idx .rorIdx, 6),
   (0x67, .idx .asrIdx, 6), (0x68, .idx .aslIdx, 6), (0x69, .idx .rolIdx, 6), (0x6A, .idx .decIdx, 6),
   (0x6C, .idx .incIdx, 6), (0x6D, .idx .tstIdx, 6), (0x6E, .idx .jmpIdx, 3), (0x6F, .idx .clrIdx, 6)]

/-- Row 70 of page 1 (30 R138). -/
def map1Row7 : List (Nat × Entry × Nat) :=
  [(0x70, .word .negExt, 7), (0x73, .word .comExt, 7), (0x74, .word .lsrExt, 7), (0x76, .word .rorExt, 7),
   (0x77, .word .asrExt, 7), (0x78, .word .aslExt, 7), (0x79, .word .rolExt, 7), (0x7A, .word .decExt, 7),
   (0x7C, .word .incExt, 7), (0x7D, .word .tstExt, 7), (0x7E, .word .jmpExt, 4), (0x7F, .word .clrExt, 7)]

/-- Row 80 of page 1 (30 R138). -/
def map1Row8 : List (Nat × Entry × Nat) :=
  [(0x80, .byte .subaImm, 2), (0x81, .byte .cmpaImm, 2), (0x82, .byte .sbcaImm, 2), (0x83, .word .subdImm, 4),
   (0x84, .byte .andaImm, 2), (0x85, .byte .bitaImm, 2), (0x86, .byte .ldaImm, 2), (0x88, .byte .eoraImm, 2),
   (0x89, .byte .adcaImm, 2), (0x8A, .byte .oraImm, 2), (0x8B, .byte .addaImm, 2), (0x8C, .word .cmpxImm, 4),
   (0x8D, .byte .bsr, 7), (0x8E, .word .ldxImm, 3)]

/-- Row 90 of page 1 (30 R138). -/
def map1Row9 : List (Nat × Entry × Nat) :=
  [(0x90, .byte .subaDir, 4), (0x91, .byte .cmpaDir, 4), (0x92, .byte .sbcaDir, 4), (0x93, .byte .subdDir, 6),
   (0x94, .byte .andaDir, 4), (0x95, .byte .bitaDir, 4), (0x96, .byte .ldaDir, 4), (0x97, .byte .staDir, 4),
   (0x98, .byte .eoraDir, 4), (0x99, .byte .adcaDir, 4), (0x9A, .byte .oraDir, 4), (0x9B, .byte .addaDir, 4),
   (0x9C, .byte .cmpxDir, 6), (0x9D, .byte .jsrDir, 7), (0x9E, .byte .ldxDir, 5), (0x9F, .byte .stxDir, 5)]

/-- Row A0 of page 1 (30 R138). -/
def map1RowA : List (Nat × Entry × Nat) :=
  [(0xA0, .idx .subaIdx, 4), (0xA1, .idx .cmpaIdx, 4), (0xA2, .idx .sbcaIdx, 4), (0xA3, .idx .subdIdx, 6),
   (0xA4, .idx .andaIdx, 4), (0xA5, .idx .bitaIdx, 4), (0xA6, .idx .ldaIdx, 4), (0xA7, .idx .staIdx, 4),
   (0xA8, .idx .eoraIdx, 4), (0xA9, .idx .adcaIdx, 4), (0xAA, .idx .oraIdx, 4), (0xAB, .idx .addaIdx, 4),
   (0xAC, .idx .cmpxIdx, 6), (0xAD, .idx .jsrIdx, 7), (0xAE, .idx .ldxIdx, 5), (0xAF, .idx .stxIdx, 5)]

/-- Row B0 of page 1 (30 R138). -/
def map1RowB : List (Nat × Entry × Nat) :=
  [(0xB0, .word .subaExt, 5), (0xB1, .word .cmpaExt, 5), (0xB2, .word .sbcaExt, 5), (0xB3, .word .subdExt, 7),
   (0xB4, .word .andaExt, 5), (0xB5, .word .bitaExt, 5), (0xB6, .word .ldaExt, 5), (0xB7, .word .staExt, 5),
   (0xB8, .word .eoraExt, 5), (0xB9, .word .adcaExt, 5), (0xBA, .word .oraExt, 5), (0xBB, .word .addaExt, 5),
   (0xBC, .word .cmpxExt, 7), (0xBD, .word .jsrExt, 8), (0xBE, .word .ldxExt, 6), (0xBF, .word .stxExt, 6)]

/-- Row C0 of page 1 (30 R138). -/
def map1RowC : List (Nat × Entry × Nat) :=
  [(0xC0, .byte .subbImm, 2), (0xC1, .byte .cmpbImm, 2), (0xC2, .byte .sbcbImm, 2), (0xC3, .word .adddImm, 4),
   (0xC4, .byte .andbImm, 2), (0xC5, .byte .bitbImm, 2), (0xC6, .byte .ldbImm, 2), (0xC8, .byte .eorbImm, 2),
   (0xC9, .byte .adcbImm, 2), (0xCA, .byte .orbImm, 2), (0xCB, .byte .addbImm, 2), (0xCC, .word .lddImm, 3),
   (0xCE, .word .lduImm, 3)]

/-- Row D0 of page 1 (30 R138). -/
def map1RowD : List (Nat × Entry × Nat) :=
  [(0xD0, .byte .subbDir, 4), (0xD1, .byte .cmpbDir, 4), (0xD2, .byte .sbcbDir, 4), (0xD3, .byte .adddDir, 6),
   (0xD4, .byte .andbDir, 4), (0xD5, .byte .bitbDir, 4), (0xD6, .byte .ldbDir, 4), (0xD7, .byte .stbDir, 4),
   (0xD8, .byte .eorbDir, 4), (0xD9, .byte .adcbDir, 4), (0xDA, .byte .orbDir, 4), (0xDB, .byte .addbDir, 4),
   (0xDC, .byte .lddDir, 5), (0xDD, .byte .stdDir, 5), (0xDE, .byte .lduDir, 5), (0xDF, .byte .stuDir, 5)]

/-- Row E0 of page 1 (30 R138). -/
def map1RowE : List (Nat × Entry × Nat) :=
  [(0xE0, .idx .subbIdx, 4), (0xE1, .idx .cmpbIdx, 4), (0xE2, .idx .sbcbIdx, 4), (0xE3, .idx .adddIdx, 6),
   (0xE4, .idx .andbIdx, 4), (0xE5, .idx .bitbIdx, 4), (0xE6, .idx .ldbIdx, 4), (0xE7, .idx .stbIdx, 4),
   (0xE8, .idx .eorbIdx, 4), (0xE9, .idx .adcbIdx, 4), (0xEA, .idx .orbIdx, 4), (0xEB, .idx .addbIdx, 4),
   (0xEC, .idx .lddIdx, 5), (0xED, .idx .stdIdx, 5), (0xEE, .idx .lduIdx, 5), (0xEF, .idx .stuIdx, 5)]

/-- Row F0 of page 1 (30 R138). -/
def map1RowF : List (Nat × Entry × Nat) :=
  [(0xF0, .word .subbExt, 5), (0xF1, .word .cmpbExt, 5), (0xF2, .word .sbcbExt, 5), (0xF3, .word .adddExt, 7),
   (0xF4, .word .andbExt, 5), (0xF5, .word .bitbExt, 5), (0xF6, .word .ldbExt, 5), (0xF7, .word .stbExt, 5),
   (0xF8, .word .eorbExt, 5), (0xF9, .word .adcbExt, 5), (0xFA, .word .orbExt, 5), (0xFB, .word .addbExt, 5),
   (0xFC, .word .lddExt, 6), (0xFD, .word .stdExt, 6), (0xFE, .word .lduExt, 6), (0xFF, .word .stuExt, 6)]

/-- The map of page 1 (30 R138). -/
def opcodeMap1 : List (Nat × Entry × Nat) :=
  map1Row0 ++ map1Row1 ++ map1Row2 ++ map1Row3 ++ map1Row4 ++ map1Row5 ++ map1Row6 ++ map1Row7 ++ map1Row8 ++
    map1Row9 ++ map1RowA ++ map1RowB ++ map1RowC ++ map1RowD ++ map1RowE ++ map1RowF

/-- Row 20 of page 2 (30 R139). -/
def map2Row2 : List (Nat × Entry × Nat) :=
  [(0x1021, .word .lbrn, 5), (0x1022, .word .lbhi, 5), (0x1023, .word .lbls, 5), (0x1024, .word .lbcc, 5),
   (0x1025, .word .lbcs, 5), (0x1026, .word .lbne, 5), (0x1027, .word .lbeq, 5), (0x1028, .word .lbvc, 5),
   (0x1029, .word .lbvs, 5), (0x102A, .word .lbpl, 5), (0x102B, .word .lbmi, 5), (0x102C, .word .lbge, 5),
   (0x102D, .word .lblt, 5), (0x102E, .word .lbgt, 5), (0x102F, .word .lble, 5)]

/-- Row 30 of page 2 (30 R139). -/
def map2Row3 : List (Nat × Entry × Nat) :=
  [(0x103F, .inh .swi2, 20)]

/-- Row 80 of page 2 (30 R139). -/
def map2Row8 : List (Nat × Entry × Nat) :=
  [(0x1083, .word .cmpdImm, 5), (0x108C, .word .cmpyImm, 5), (0x108E, .word .ldyImm, 4)]

/-- Row 90 of page 2 (30 R139). -/
def map2Row9 : List (Nat × Entry × Nat) :=
  [(0x1093, .byte .cmpdDir, 7), (0x109C, .byte .cmpyDir, 7), (0x109E, .byte .ldyDir, 6), (0x109F, .byte .styDir, 6)]

/-- Row A0 of page 2 (30 R139). -/
def map2RowA : List (Nat × Entry × Nat) :=
  [(0x10A3, .idx .cmpdIdx, 7), (0x10AC, .idx .cmpyIdx, 7), (0x10AE, .idx .ldyIdx, 6), (0x10AF, .idx .styIdx, 6)]

/-- Row B0 of page 2 (30 R139). -/
def map2RowB : List (Nat × Entry × Nat) :=
  [(0x10B3, .word .cmpdExt, 8), (0x10BC, .word .cmpyExt, 8), (0x10BE, .word .ldyExt, 7), (0x10BF, .word .styExt, 7)]

/-- Row C0 of page 2 (30 R139). -/
def map2RowC : List (Nat × Entry × Nat) :=
  [(0x10CE, .word .ldsImm, 4)]

/-- Row D0 of page 2 (30 R139). -/
def map2RowD : List (Nat × Entry × Nat) :=
  [(0x10DE, .byte .ldsDir, 6), (0x10DF, .byte .stsDir, 6)]

/-- Row E0 of page 2 (30 R139). -/
def map2RowE : List (Nat × Entry × Nat) :=
  [(0x10EE, .idx .ldsIdx, 6), (0x10EF, .idx .stsIdx, 6)]

/-- Row F0 of page 2 (30 R139). -/
def map2RowF : List (Nat × Entry × Nat) :=
  [(0x10FE, .word .ldsExt, 7), (0x10FF, .word .stsExt, 7)]

/-- The map of page 2 (30 R139). -/
def opcodeMap2 : List (Nat × Entry × Nat) :=
  map2Row2 ++ map2Row3 ++ map2Row8 ++ map2Row9 ++ map2RowA ++ map2RowB ++ map2RowC ++ map2RowD ++ map2RowE ++
    map2RowF

/-- Row 30 of page 3 (30 R140). -/
def map3Row3 : List (Nat × Entry × Nat) :=
  [(0x113F, .inh .swi3, 20)]

/-- Row 80 of page 3 (30 R140). -/
def map3Row8 : List (Nat × Entry × Nat) :=
  [(0x1183, .word .cmpuImm, 5), (0x118C, .word .cmpsImm, 5)]

/-- Row 90 of page 3 (30 R140). -/
def map3Row9 : List (Nat × Entry × Nat) :=
  [(0x1193, .byte .cmpuDir, 7), (0x119C, .byte .cmpsDir, 7)]

/-- Row A0 of page 3 (30 R140). -/
def map3RowA : List (Nat × Entry × Nat) :=
  [(0x11A3, .idx .cmpuIdx, 7), (0x11AC, .idx .cmpsIdx, 7)]

/-- Row B0 of page 3 (30 R140). -/
def map3RowB : List (Nat × Entry × Nat) :=
  [(0x11B3, .word .cmpuExt, 8), (0x11BC, .word .cmpsExt, 8)]

/-- The map of page 3 (30 R140). -/
def opcodeMap3 : List (Nat × Entry × Nat) :=
  map3Row3 ++ map3Row8 ++ map3Row9 ++ map3RowA ++ map3RowB

/-- The defined opcodes of the three pages (30 R135). -/
def opcodeMap : List (Nat × Entry × Nat) := opcodeMap1 ++ opcodeMap2 ++ opcodeMap3

/-- An opcode, with its prefix in the high byte, is in the maps. -/
abbrev Mapped (n : Nat) : Prop := ∃ row ∈ opcodeMap, row.1 = n

/-- The bytes of an opcode of the maps: its prefix, if it has one, then the opcode. -/
def opcodeBytes (n : Nat) : List Byte :=
  if n < 0x100 then [BitVec.ofNat 8 n] else [BitVec.ofNat 8 (n / 0x100), BitVec.ofNat 8 (n % 0x100)]

/-- The bytes of an opcode, followed by operand bytes of its row's format (30 R130) at any value, decode to the row's
instruction with that operand. -/
def RowDecodes (op : List Byte) : Entry → Prop
  | .inh i => ∀ rest, decode (op ++ rest) = .instr i false rest
  | .byte f => ∀ v rest, decode (op ++ v :: rest) = .instr (f v) false rest
  | .word f => ∀ hi lo rest, decode (op ++ hi :: lo :: rest) = .instr (f (hi ++ lo)) false rest
  | .regs f => ∀ src dst rest, decode (op ++ (src ++ dst) :: rest) = .instr (f src dst) false rest
  | .idx f => ∀ ix rest, ix.wf = true → decode (op ++ (encodeIndexed ix ++ rest)) = .instr (f ix) false rest

/-- With every operand, the instruction of a row has the row's opcode number and its base cycles. -/
def RowCosts (n cycles : Nat) : Entry → Prop
  | .inh i => opcodeNumber i = n ∧ baseCycles i = cycles
  | .byte f => ∀ v, opcodeNumber (f v) = n ∧ baseCycles (f v) = cycles
  | .word f => ∀ w, opcodeNumber (f w) = n ∧ baseCycles (f w) = cycles
  | .regs f => ∀ src dst, opcodeNumber (f src dst) = n ∧ baseCycles (f src dst) = cycles
  | .idx f => ∀ ix, opcodeNumber (f ix) = n ∧ baseCycles (f ix) = cycles

/-- The answer of the decoder to the bytes after a prefix that fell back: the page-1 answer, an instruction noted as
reached by the fallback (30 R133). -/
def asFallback : DecodeResult → DecodeResult
  | .instr i _ rest => .instr i true rest
  | d => d

/-! Operands. -/

/-- The address a sub-mode computes, as an exact integer before it is cut to 16 bits (30 R161 to R168). -/
def indexedSum (s : State) : IdxMode → Int
  | .off5 r n => (s.idxGet r).toNat + n.toInt
  | .postInc1 r => (s.idxGet r).toNat
  | .postInc2 r => (s.idxGet r).toNat
  | .preDec1 r => (s.idxGet r).toNat - 1
  | .preDec2 r => (s.idxGet r).toNat - 2
  | .zero r => (s.idxGet r).toNat
  | .accB r => (s.idxGet r).toNat + s.regs.b.toInt
  | .accA r => (s.idxGet r).toNat + s.regs.a.toInt
  | .accD r => (s.idxGet r).toNat + s.d.toInt
  | .off8 r n => (s.idxGet r).toNat + n.toInt
  | .off16 r n => (s.idxGet r).toNat + n.toInt
  | .pcr8 n => s.regs.pc.toNat + n.toInt
  | .pcr16 n => s.regs.pc.toNat + n.toInt
  | .ext n => n.toNat

/-- The base register a sub-mode advances, and by how much (30 R162, R163). -/
def autoStep : IdxMode → Option (IdxReg × Int)
  | .postInc1 r => some (r, 1)
  | .postInc2 r => some (r, 2)
  | .preDec1 r => some (r, -1)
  | .preDec2 r => some (r, -2)
  | .off5 _ _ => none
  | .zero _ => none
  | .accB _ => none
  | .accA _ => none
  | .accD _ => none
  | .off8 _ _ => none
  | .off16 _ _ => none
  | .pcr8 _ => none
  | .pcr16 _ => none
  | .ext _ => none

/-- The base registers after the resolution: the advanced one cut to 16 bits, unless it is the LEA's target (30 R171). -/
def baseAfter (s : State) (lea : Option IdxReg) (m : IdxMode) (q : IdxReg) : Word :=
  match autoStep m with
  | none => s.idxGet q
  | some (r, k) => if r = q ∧ lea ≠ some r then BitVec.ofInt 16 ((s.idxGet r).toNat + k) else s.idxGet q

/-! TFR and EXG. -/

/-- The value of a register code as wide as a destination code, the table of 30 R175: 16 bits for destinations 0 to 7, else
8 bits in the low byte. -/
def codeValue (g : Regs) (c dst : BitVec 4) : Word :=
  let narrow := decide (8 ≤ dst.toNat)
  let word := fun (w : Word) => if narrow then zext8 (loByte w) else w
  let byte := fun (hi v : Byte) => if narrow then zext8 v else joinBytes hi v
  if c = 0x0 then word (joinBytes g.a g.b)
  else if c = 0x1 then word g.x
  else if c = 0x2 then word g.y
  else if c = 0x3 then word g.u
  else if c = 0x4 then word g.s
  else if c = 0x5 then word g.pc
  else if c = 0x8 then byte 0xFF g.a
  else if c = 0x9 then byte 0xFF g.b
  else if c = 0xA then byte g.cc g.cc
  else if c = 0xB then byte g.dp g.dp
  else byte 0xFF 0xFF

/-- The registers after a write of a register code (30 R176). -/
def writeCode (c : BitVec 4) (v : Word) (g : Regs) : Regs where
  a := if c = 0x0 then hiByte v else if c = 0x8 then loByte v else g.a
  b := if c = 0x0 then loByte v else if c = 0x9 then loByte v else g.b
  cc := if c = 0xA then loByte v else g.cc
  dp := if c = 0xB then loByte v else g.dp
  x := if c = 0x1 then v else g.x
  y := if c = 0x2 then v else g.y
  u := if c = 0x3 then v else g.u
  s := if c = 0x4 then v else g.s
  pc := if c = 0x5 then v else g.pc

/-! The bus. -/

/-- The bank register that maps an address: 8 of each task (20 R81). -/
def bankFor (s : State) (a : Word) : Nat :=
  (s.gime.bank.toList.getD (8 * (s.gime.init1.toNat % 2) + a.toNat / 0x2000) 0).toNat

/-- An untranslated or banked read of an address below 0xFF00 is routed to ROM, at this window address: under the MMU the
banks of `ROM_BANKS`, 0x3C + k at 0x8000 + k * 0x2000, and a bank number outside 0x3C to 0x3F at a free 8 KiB of the
window (log 25); without it 0x8000 and above, but for the constant-vector page with `CONST_VECTORS_OVERRIDE_ROM`
(20 R81 to R83). -/
def romWindow (s : State) (a : Word) : Option Nat :=
  let constPage := s.gime.init0.getLsbD 3 && decide (0xFE00 ≤ a.toNat)
  if s.sam.getLsbD 15 then none
  else if s.gime.init0.getLsbD 6 && !constPage then
    if BitVec.ofNat 6 (bankFor s a) ∈ s.params.romBanks then
      let block :=
        if 0x3C ≤ bankFor s a then bankFor s a - 0x3C else (Config.otherRomBank (BitVec.ofNat 6 (bankFor s a))).val
      some (0x8000 + block * 0x2000 + a.toNat % 0x2000)
    else none
  else if 0x8000 ≤ a.toNat ∧ ¬ (s.params.constVectorsOverrideRom && constPage) then some a.toNat
  else none

/-- The RAM address of an address below 0xFF00, its low `ramBits` bits (20 R81, R83, R86). -/
def ramOf (s : State) (a : Word) : Nat :=
  if s.gime.init0.getLsbD 6 && (decide (a.toNat < 0xFE00) || !s.gime.init0.getLsbD 3) then
    (bankFor s a * 0x2000 + a.toNat % 0x2000) % 2 ^ s.params.ramBits
  else (s.params.fixedBase + a.toNat) % 2 ^ s.params.ramBits

/-- An address lies in the window of a peripheral that is present (20 R97, R98). -/
def Forwarded (s : State) (a : Word) : Prop :=
  ∃ w ∈ s.params.peripheralWindows, w.present = true ∧ w.first ≤ a.toNat ∧ a.toNat ≤ w.last

/-- The ROM byte at a window address, by INIT0 bits 1..0 (20 R92, R94, 10 R46). -/
def romByte (s : State) (l : Nat) : Byte :=
  let internal := imageByte s.platform.internalRom (l - 0x8000)
  let external := imageByte s.platform.externalRom (l - 0x8000)
  if s.gime.init0.toNat % 4 = 2 then internal
  else if s.gime.init0.toNat % 4 = 3 then external
  else if l < 0xC000 then internal
  else external

/-! The invariant of a run. -/

/-- The GIME IRQ latch agrees with the source bits of the IRQ line, and its unused bits are 0 (10 R48, R49). -/
def IrqLatchAgrees (s : State) : Prop :=
  s.lines.irq.gimeTmr = s.gime.irqFlags.getLsbD 5 ∧ s.lines.irq.gimeVbord = s.gime.irqFlags.getLsbD 3 ∧
    s.lines.irq.gimeEnv =
      (s.gime.irqFlags.getLsbD 4 || s.gime.irqFlags.getLsbD 2 || s.gime.irqFlags.getLsbD 1 || s.gime.irqFlags.getLsbD 0) ∧
    s.gime.irqFlags.getLsbD 7 = false ∧ s.gime.irqFlags.getLsbD 6 = false

/-- The GIME FIRQ latch agrees with the source bits of the FIRQ line, and its unused bits are 0 (10 R48, R49). -/
def FirqLatchAgrees (s : State) : Prop :=
  s.lines.firq.gimeTmr = s.gime.firqFlags.getLsbD 5 ∧ s.lines.firq.gimeVbord = s.gime.firqFlags.getLsbD 3 ∧
    s.lines.firq.gimeEnv =
      (s.gime.firqFlags.getLsbD 4 || s.gime.firqFlags.getLsbD 2 || s.gime.firqFlags.getLsbD 1 ||
        s.gime.firqFlags.getLsbD 0) ∧
    s.gime.firqFlags.getLsbD 7 = false ∧ s.gime.firqFlags.getLsbD 6 = false

/-- What every step keeps. -/
structure Inv (s : State) : Prop where
  /-- RAM is in its canonical form (10 R41). -/
  ram : s.ram.wf = true
  /-- RAM lists no address outside the installed size (10 R41, 20 R86). -/
  inside : ∀ c ∈ s.ram, c.1 < 2 ^ s.params.ramBits
  /-- The dot counter is in range (10 R53, 60 R631). -/
  dot : s.seq.dot < 1820
  /-- The scanline counter is in range (10 R53, 60 R631). -/
  scanline : s.seq.scanline < 262
  /-- A GIME event sets a latch bit exactly when it sets the source bit (10 R49). -/
  irqLatch : IrqLatchAgrees s
  /-- The same of FIRQ (10 R49). -/
  firqLatch : FirqLatchAgrees s
  /-- `PIA0_VSYNC` is set exactly when the flag is set and CRB bit 0 is 1 (20 R109, 60 R650). -/
  vsync : s.lines.irq.pia0Vsync = (s.pia.vsyncFlag && s.pia.crb.getLsbD 0)
  /-- The E that CWAI set stays set while it waits (60 R608). -/
  cwai : s.halt = .cwaiWait → s.flag .e = true

end Sys2Proof.Safety
end

