-- ==== Sys2Proof/Certificates/Slice0/Obligations.lean ====
section
/-! DEFINITION. The statements for the provers. The families of instructions, and what is left unchanged, are named in
Sys2Proof/Safety.lean. -/

open Sys2Proof Sys2Proof.Machine Sys2Proof.Safety

/-- O1. For every well-formed instruction i, with every operand at every value its encoding admits, and any bytes after
it: decode of encode i followed by those bytes answers i, with no prefix fallback and exactly those bytes left. It
says that no operand bit is dropped. -/
def Obligations.DecodeOfEncodeIsTheInstruction : Prop :=
  ∀ (i : Instr) (rest : List Byte), i.wf = true → decode (encode i ++ rest) = .instr i false rest

/-- O2. LDA #$05, JMP $1234, STD n8,U, LEAX ,--Y, LDX [,X++], LBNE, LDS direct, CMPU extended, TFR X,Y, PSHS, SWI2 and
SWI3, each byte taken from the opcode maps and the postbyte layouts. -/
def Obligations.OpcodeWordsDecodeAsWritten : Prop :=
  decode [0x86, 0x05] = .instr (.ldaImm 0x05) false [] ∧
  decode [0x7E, 0x12, 0x34] = .instr (.jmpExt 0x1234) false [] ∧
  decode [0xED, 0xC8, 0x7F] = .instr (.stdIdx ⟨.off8 .u 0x7F, false⟩) false [] ∧
  decode [0x30, 0xA3] = .instr (.leax ⟨.preDec2 .y, false⟩) false [] ∧
  decode [0xAE, 0x91] = .instr (.ldxIdx ⟨.postInc2 .x, true⟩) false [] ∧
  decode [0x10, 0x26, 0xFF, 0x00] = .instr (.lbne 0xFF00) false [] ∧
  decode [0x10, 0xDE, 0x20] = .instr (.ldsDir 0x20) false [] ∧
  decode [0x11, 0xB3, 0x40, 0x00] = .instr (.cmpuExt 0x4000) false [] ∧
  decode [0x1F, 0x12] = .instr (.tfr 1 2) false [] ∧
  decode [0x34, 0x16] = .instr (.pshs 0x16) false [] ∧
  decode [0x10, 0x3F] = .instr .swi2 false [] ∧
  decode [0x11, 0x3F] = .instr .swi3 false []

/-- O3. The 268 opcodes of the maps of R138 to R140, written out in opcodeMap: the bytes of each, followed by the
operand bytes of its format at any value, decode to the instruction of its row. An opcode byte outside the page-1
map and not a prefix is an invalid opcode, alone and after 0x10 or 0x11, whatever follows; so is a prefix after a
prefix. Any other byte b with no row on page 2 (3) decodes after 0x10 (0x11) as it does alone, an instruction being
noted as a fallback; so the rows of pages 2 and 3 are those of R139 and R140 only. The clause on instructions says
the same of the bytes of any well-formed instruction. -/
def Obligations.PrefixWithoutRowFallsBackToPageOne : Prop :=
  (∀ row ∈ opcodeMap, RowDecodes (opcodeBytes row.1) row.2.1) ∧
  (∀ (b : Byte) (rest : List Byte), ¬ Mapped b.toNat → b ≠ 0x10 → b ≠ 0x11 →
    decode (b :: rest) = .invalidOpcode rest ∧ decode (0x10 :: b :: rest) = .invalidOpcode rest ∧
      decode (0x11 :: b :: rest) = .invalidOpcode rest) ∧
  (∀ (p q : Byte) (rest : List Byte), (p = 0x10 ∨ p = 0x11) → (q = 0x10 ∨ q = 0x11) →
    decode (p :: q :: rest) = .invalidOpcode rest) ∧
  (∀ (b : Byte) (rest : List Byte), b ≠ 0x10 → b ≠ 0x11 →
    (¬ Mapped (0x1000 + b.toNat) → decode (0x10 :: b :: rest) = asFallback (decode (b :: rest))) ∧
    (¬ Mapped (0x1100 + b.toNat) → decode (0x11 :: b :: rest) = asFallback (decode (b :: rest)))) ∧
  ∀ (i : Instr) (rest : List Byte) (b : Byte) (tail : List Byte),
    i.wf = true → encode i = b :: tail → b ≠ 0x10 → b ≠ 0x11 →
      (¬ Mapped (0x1000 + b.toNat) → decode (0x10 :: b :: (tail ++ rest)) = .instr i true rest) ∧
      (¬ Mapped (0x1100 + b.toNat) → decode (0x11 :: b :: (tail ++ rest)) = .instr i true rest)

/-- O4. For each of the rows with an indexed operand, of pages 1, 2 and 3, after its opcode (and prefix): a postbyte
with bit 7 set and low nibble 7, A or E, or low nibble F with bit 4 clear, gives the illegal-indexed answer; with
two more bytes behind it every other postbyte gives an instruction of that row. -/
def Obligations.UndefinedPostbytesAreRefused : Prop :=
  ∀ row ∈ indexedRows, ∀ (pb x y : Byte) (rest : List Byte),
    let undefined := pb.getLsbD 7 = true ∧
      (pb.toNat % 16 = 0x7 ∨ pb.toNat % 16 = 0xA ∨ pb.toNat % 16 = 0xE ∨ (pb.toNat % 16 = 0xF ∧ pb.getLsbD 4 = false))
    (undefined → decode (row.1 ++ pb :: x :: y :: rest) = .illegalIndexed (x :: y :: rest)) ∧
    (¬ undefined →
      ∃ ix left, ix.wf = true ∧ decode (row.1 ++ pb :: x :: y :: rest) = .instr (row.2 ix) false left)

/-- O5. The CPU divisor is 16 where SAM field 12 is set and 32 where it is clear. On every master tick, after the
environment inputs and the sequencer events: where masterCycle is a multiple of the divisor, step is the CPU tick
(O8), else it answers just that state. On a CPU tick with no hardware halt, pending 0 and no soft halt left by the
interrupt check: if the fetch at PC gives instruction i, step is exec of i at the state after the fetch, with the
cycles of its row and, after a prefix fallback, FALLBACK_EXTRA_CYCLES added before, and pending set to the total
minus one after. The cycles of a row are the figure that CYCLES lists for its opcode, else the base figure, and the
base figure of each of the 268 rows is the one in the opcode maps. That a step of the model is one master tick is
the choice of log 11, and that the inputs wait in queues that of log 10; the parameters have the defaults of log 9
after reset, and the statement holds for every value of them. -/
def Obligations.StepRunsTheDecodedInstruction : Prop :=
  (∀ s : State, s.cpuDiv = if s.sam.getLsbD 12 then 16 else 32) ∧
  (∀ s : State, let u := s.applyEnv.sequence
    step s = if u.seq.masterCycle % (if u.sam.getLsbD 12 then 16 else 32) = 0 then u.cpuTick else .next u) ∧
  (∀ row ∈ opcodeMap, RowCosts row.1 row.2.2 row.2.1) ∧
  ∀ (s c f : State) (i : Instr) (fallback : Bool) (rest : List Byte),
    let u := s.applyEnv.sequence
    let cycles := (s.params.cycles.lookup (opcodeNumber i)).getD (baseCycles i)
    u.seq.masterCycle % u.cpuDiv = 0 → u.hwHalt = false → u.pending = 0 →
    c = ({ u with cyc := 0 }).interruptCheck → c.halt = .none →
    c.fetchInstr = (.instr i fallback rest, f) →
      step s =
        match exec i (f.addCyc (cycles + if fallback then s.params.fallbackExtraCycles else 0)) with
        | .next t => .next { t with pending := t.cyc - 1 }
        | .fault e => .fault e
        | .refused e => .refused e

/-- O6. If the bytes at PC, all below the I/O window, read as the encoding of a well-formed instruction, the fetch
answers that instruction and changes PC only, to the address after the last byte (modulo 0x10000 by the width of
PC). The bytes may lie in RAM or ROM and in different blocks. -/
def Obligations.FetchReadsTheInstructionAtPC : Prop :=
  ∀ (s : State) (i : Instr), i.wf = true →
    (∀ j, j < (encode i).length →
      (s.regs.pc + BitVec.ofNat 16 j).toNat < 0xFF00 ∧
        (s.readByte (s.regs.pc + BitVec.ofNat 16 j)).1 = (encode i).getD j 0) →
      s.fetchInstr =
        (.instr i false [],
          { s with regs := { s.regs with pc := s.regs.pc + BitVec.ofNat 16 (encode i).length } })

/-- O7. When the interrupt check leaves no soft halt: an invalid opcode answers the state after the fetch with halt
InvalidOpcodeHalt and one cycle more; an undefined indexed postbyte answers what the parameter ILLEGAL_INDEXED says,
the fault IllegalIndexed (its default, log 9) or the refusal of that name. When the check leaves a soft halt,
nothing is fetched and the step costs 1 if the check added no cycle. In particular, with the bytes at PC below the
I/O window: a byte outside the page-1 map that is no prefix halts so with PC one further; a prefix followed by such
a byte, or by a prefix, halts so with PC two further. Nothing else changes. -/
def Obligations.UndefinedOpcodeAndPostbyteSteps : Prop :=
  ∀ (s c f : State) (rest : List Byte), c = s.interruptCheck →
    (c.halt = .none → c.fetchInstr = (.invalidOpcode rest, f) →
      s.cpuStep = .next { f with halt := .invalidOpcode, cyc := f.cyc + 1 }) ∧
    (c.halt = .none → c.fetchInstr = (.illegalIndexed rest, f) →
      s.cpuStep = if s.params.illegalIndexed = .fault then .fault .illegalIndexed else .refused .illegalIndexed) ∧
    (c.halt ≠ .none → s.cpuStep = .next (if c.cyc = 0 then { c with cyc := 1 } else c)) ∧
    let pc := c.regs.pc
    let halted := fun pc' : Word =>
      { c with regs := { c.regs with pc := pc' }, halt := .invalidOpcode, cyc := c.cyc + 1 }
    let b1 := (c.readByte pc).1
    let b2 := (c.readByte (pc + 1)).1
    (c.halt = .none → pc.toNat < 0xFF00 → ¬ Mapped b1.toNat → b1 ≠ 0x10 → b1 ≠ 0x11 →
      s.cpuStep = .next (halted (pc + 1))) ∧
    (c.halt = .none → pc.toNat < 0xFF00 → (pc + 1).toNat < 0xFF00 → (b1 = 0x10 ∨ b1 = 0x11) → ¬ Mapped b2.toNat →
      s.cpuStep = .next (halted (pc + 2)))

/-- O8. For every state: with hwHalt true the CPU tick answers the same state, whatever pending holds; with hwHalt false
and pending above 0 it answers the state with pending one less and nothing else changed; with hwHalt false and
pending 0 it is the step begun with a cycle total of 0, with pending then set to the cycle total minus one, or the
stop of that step. -/
def Obligations.CpuTickHaltsCountsDownOrSteps : Prop :=
  ∀ s : State,
    (s.hwHalt = true → s.cpuTick = .next s) ∧
    (s.hwHalt = false → 0 < s.pending → s.cpuTick = .next { s with pending := s.pending - 1 }) ∧
    (s.hwHalt = false → s.pending = 0 →
      s.cpuTick =
        match ({ s with cyc := 0 }).cpuStep with
        | .next t => .next { t with pending := t.cyc - 1 }
        | .fault e => .fault e
        | .refused e => .refused e)

/-- O9. If step answers a next state, its masterCycle is one more; with the dot at 1819 the dot is 0 and the scanline
one more, or 0 from 261; otherwise the dot is one more and the scanline the same. No instruction, interrupt or input
changes the counters. Stated for every state; the second clause covers every dot but 1819. -/
def Obligations.CountersAdvanceOneMasterTick : Prop :=
  ∀ s t : State, step s = .next t →
    t.seq.masterCycle = s.seq.masterCycle + 1 ∧
    (s.seq.dot = 1819 →
      t.seq.dot = 0 ∧ t.seq.scanline = if s.seq.scanline = 261 then 0 else s.seq.scanline + 1) ∧
    (s.seq.dot ≠ 1819 → t.seq.dot = s.seq.dot + 1 ∧ t.seq.scanline = s.seq.scanline)

/-- O10. For every state with the invariant, if step answers a next state then that state has it: RAM in its canonical
form and inside the installed size; dot below 1820 and scanline below 262; the GIME IRQ and FIRQ latches agreeing
with the source bits of their lines and their unused bits 0; PIA0_VSYNC set exactly when the flag is set and CRB bit
0 is 1; E set while the CPU waits in CWAI. -/
def Obligations.InvariantIsKeptByEveryStep : Prop :=
  ∀ s t : State, Inv s → step s = .next t → Inv t

/-- O11. State.reset has the invariant that every step keeps. -/
def Obligations.InvariantHoldsAtReset : Prop :=
  Inv State.reset

/-- O12. pending 0, no soft halt, no hardware halt, the NMI, FIRQ and IRQ lines empty, the RESET line set, INIT0, INIT1,
the enable masks, the latches, the timer value and counter 0, blink false, every SAM field 0 so that the CPU divisor
is 32, the counters 0, CRB 0, the VSYNC flag false, and, of the parameters, which R56 does not count as state and
the model keeps in State (log 9), the defaults of the table of R7, the windows of the peripherals by their ranges.
The values that the spec leaves unspecified (logs 1 to 5) are not stated. -/
def Obligations.PowerOnStateTheSpecGives : Prop :=
  let s := State.reset
  s.pending = 0 ∧ s.halt = .none ∧ s.hwHalt = false ∧
  s.lines.nmiExt = false ∧ s.lines.firq.any = false ∧ s.lines.irq.any = false ∧ s.lines.resetHost = true ∧
  s.gime.init0 = 0 ∧ s.gime.init1 = 0 ∧ s.gime.irqenr = 0 ∧ s.gime.firqenr = 0 ∧
  s.gime.irqFlags = 0 ∧ s.gime.firqFlags = 0 ∧ s.gime.timerValue = 0 ∧ s.gime.timerCount = 0 ∧
  s.gime.blink = false ∧ s.sam = 0 ∧ s.cpuDiv = 32 ∧
  s.seq.masterCycle = 0 ∧ s.seq.dot = 0 ∧ s.seq.scanline = 0 ∧ s.pia.crb = 0 ∧ s.pia.vsyncFlag = false ∧
  s.params.peripheralWindows.map (fun w => (w.first, w.last)) = [(0xFF20, 0xFF3F), (0xFF40, 0xFF5F), (0xFF80, 0xFF8F)] ∧
  s.params.ramSize = 0x80000 ∧
  s.params =
    { ramBits := 19, fixedBase := 0x70000, romBanks := [0x3C, 0x3D, 0x3E, 0x3F], romWritePolicy := .toRam
      constVectorsOverrideRom := false, cycles := []
      intCyclesNmi := 19, intCyclesIrq := 19, intCyclesFirq := 10, intCyclesSkip := 7, fallbackExtraCycles := 1
      illegalIndexed := .fault, resetInitCcDp := false, resetFirst := false, maskedLineBlocks := false
      sexV := .unchanged, timerZeroStops := true, gimeMasterGate := true
      peripheralWindows := s.params.peripheralWindows }

/-- O13. If step answers a next state, the two ROM images and every parameter of R7 held in State are those of the state
before: no instruction, interrupt, peripheral or environment input writes them. -/
def Obligations.NoStepWritesTheRomImages : Prop :=
  ∀ s t : State, step s = .next t → t.platform = s.platform ∧ t.params = s.params

/-- O14. For every state: the direct address is DP * 256 + dd, the extended one the word, without effect. For every sub-
mode and LEA target: without the indirect flag the address is the exact sum of base and signed offset cut to 16
bits, the base registers are as the auto-increment or auto-decrement leaves them (suppressed for the target of a
LEA), everything else is unchanged and the cycle total grows by the delta of the table of R172, given for each sub-
mode as a number. With the flag the address is the word read at that address in that state, at 3 cycles more. A pair
that has no encoding (a 5-bit offset with the flag, extended without it) is included, with the meaning that log 14
gives it. -/
def Obligations.EffectiveAddressesAndWriteBack : Prop :=
  (∀ (s : State) (d : Byte) (w : Word),
    (s.ea (.dir d)).1.toNat = s.regs.dp.toNat * 256 + d.toNat ∧ (s.ea (.dir d)).2 = s ∧ s.ea (.ext w) = (w, s)) ∧
  ∀ (s : State) (lea : Option IdxReg) (m : IdxMode),
    let r := s.resolveIndexed lea ⟨m, false⟩
    let g := { s.regs with x := baseAfter s lea m .x, y := baseAfter s lea m .y, u := baseAfter s lea m .u,
                           s := baseAfter s lea m .s }
    let delta := match m with
      | .off5 _ _ => 1
      | .postInc1 _ => 2
      | .postInc2 _ => 3
      | .preDec1 _ => 2
      | .preDec2 _ => 3
      | .zero _ => 0
      | .accB _ => 1
      | .accA _ => 1
      | .off8 _ _ => 1
      | .off16 _ _ => 4
      | .accD _ => 4
      | .pcr8 _ => 1
      | .pcr16 _ => 5
      | .ext _ => 2
    r = (BitVec.ofInt 16 (indexedSum s m), { s with regs := g, cyc := s.cyc + delta }) ∧
    s.resolveIndexed lea ⟨m, true⟩ = (r.2.addCyc 3).readWord r.1

/-- O15. Every operand form of every 8-bit and 16-bit source: an immediate is its value, without effect; a memory
operand of 8 bits is the byte read at the effective address in the state after its resolution; one of 16 bits is 256
times the byte read there plus the byte read next at the address plus 1 modulo 0x10000, as is every word read.
Afterwards every register but the advanced index register, CC and every byte of RAM are as before, the cycle total
has grown by the mode figure, and the rest of the machine differs at most by acknowledged latches and drawn free
values. A direct or extended operand byte below 0xFF00 leaves the state untouched. -/
def Obligations.OperandReadsLeaveTheRest : Prop :=
  (∀ (s : State) (o : Src8), let t := (s.operand8 o).2
    RegsKept s t (auto8 o) ∧ t.regs.cc = s.regs.cc ∧ RamKept s t [] ∧ ReadEffect s t ∧ t.cyc = s.cyc + cycles8 o) ∧
  (∀ (s : State) (o : Src16), let t := (s.operand16 o).2
    RegsKept s t (auto16 o) ∧ t.regs.cc = s.regs.cc ∧ RamKept s t [] ∧ ReadEffect s t ∧ t.cyc = s.cyc + cycles16 o) ∧
  (∀ (s : State) (m : MemOp), let t := (s.ea m).2
    RegsKept s t (autoOf m) ∧ t.regs.cc = s.regs.cc ∧ RamKept s t [] ∧ ReadEffect s t ∧ t.cyc = s.cyc + memCycles m) ∧
  (∀ (s : State) (v : Byte) (w : Word), s.operand8 (.imm v) = (v, s) ∧ s.operand16 (.imm w) = (w, s)) ∧
  (∀ (s : State) (m : MemOp), let r := s.ea m; let hi := r.2.readByte r.1; let lo := hi.2.readByte (r.1 + 1)
    s.operand8 (.mem m) = hi ∧
    (s.operand16 (.mem m)).1.toNat = 256 * hi.1.toNat + lo.1.toNat ∧ (s.operand16 (.mem m)).2 = lo.2) ∧
  (∀ (s : State) (a : Word), let hi := s.readByte a; let lo := hi.2.readByte (a + 1)
    (s.readWord a).1.toNat = 256 * hi.1.toNat + lo.1.toNat ∧ (s.readWord a).2 = lo.2) ∧
  ∀ (s : State) (d : Byte) (a : Word),
    (s.regs.dp.toNat * 256 + d.toNat < 0xFF00 → (s.operand8 (.mem (.dir d))).2 = s) ∧
    (a.toNat < 0xFF00 → (s.operand8 (.mem (.ext a))).2 = s)

/-- O16. For LDA and LDB with an immediate, direct, indexed or extended operand (ldaImm, ldaDir, ldaIdx, ldaExt, ldbImm,
ldbDir, ldbIdx, ldbExt), in every state: exec answers a next state in which the accumulator is the operand, N is its
bit 7, Z says it is 0, V is 0, every other flag is unchanged, every other register but an advanced index register is
unchanged, every byte of RAM reads as before, and the rest is as the operand read leaves it. -/
def Obligations.LoadsOfAccumulators : Prop :=
  ∀ (k : Acc) (o : Src8) (s : State), let r := s.operand8 o
    ∃ t, exec (loadByte k o) s = .next t ∧ t.acc k = r.1 ∧
      FlagsSet s t [(.n, r.1.msb), (.z, r.1 == 0), (.v, false)] ∧ OperandFrame s r.2 t (auto8 o) [accName k]

/-- O17. For LDD, LDX, LDY, LDU and LDS with an immediate, direct, indexed or extended operand (the Imm, Dir, Idx and
Ext constructors of ldd, ldx, ldy, ldu, lds), in every state: exec answers a next state in which the register is the
operand (after any write-back of the same register), with N, Z and V as for a move; every other flag, register and
byte of RAM is unchanged but for an advanced index register. -/
def Obligations.LoadsOfWordRegisters : Prop :=
  ∀ (k : Reg16) (o : Src16) (s : State), let r := s.operand16 o
    ∃ t, exec (loadWord k o) s = .next t ∧ t.get16 k = r.1 ∧
      FlagsSet s t [(.n, r.1.msb), (.z, r.1 == 0), (.v, false)] ∧ OperandFrame s r.2 t (auto16 o) (reg16Names k)

/-- O18. For STA and STB with a direct, indexed or extended operand (staDir, staIdx, staExt, stbDir, stbIdx, stbExt), in
every state: exec answers a next state; the byte stored is the accumulator after the address is resolved, at the RAM
address that the logical address stores to; every other byte of RAM reads as before; N, Z, V as for a move and no
other flag; no register but an advanced index register changes; the rest is as the bus write leaves it (an I/O
register, or nothing). -/
def Obligations.StoresOfAccumulators : Prop :=
  ∀ (k : Acc) (m : MemOp) (s : State), let r := s.ea m; let v := r.2.acc k
    ∃ t, exec (storeByte k m) s = .next t ∧
      FlagsSet s t [(.n, v.msb), (.z, v == 0), (.v, false)] ∧
      RegsKept r.2 t [] ∧ RegsKept s t (autoOf m) ∧
      RamKept s t (r.2.storeAddr r.1).toList ∧
      (∀ p, r.2.storeAddr r.1 = some p → s.ram.wf = true → ramRead t.ram p = v) ∧
      SystemKept (r.2.writeByte r.1 v) t ∧ t.cyc = r.2.cyc

/-- O19. For STD, STX, STY, STU and STS with a direct, indexed or extended operand (the Dir, Idx and Ext constructors of
std, stx, sty, stu, sts), in every state: exec answers a next state; the high byte goes to the effective address and
then the low byte to the next address modulo 0x10000, each translated when it is written; every byte of RAM at
neither address reads as before; flags as for a move; no register but an advanced index register changes. -/
def Obligations.StoresOfWordRegisters : Prop :=
  ∀ (k : Reg16) (m : MemOp) (s : State), let r := s.ea m; let v := r.2.get16 k
    let w := r.2.writeByte r.1 (hiByte v)
    ∃ t, exec (storeWord k m) s = .next t ∧
      FlagsSet s t [(.n, v.msb), (.z, v == 0), (.v, false)] ∧
      RegsKept r.2 t [] ∧ RegsKept s t (autoOf m) ∧
      RamKept s t ((r.2.storeAddr r.1).toList ++ (w.storeAddr (r.1 + 1)).toList) ∧
      (∀ p, w.storeAddr (r.1 + 1) = some p → s.ram.wf = true → ramRead t.ram p = loByte v) ∧
      (∀ p, r.2.storeAddr r.1 = some p → w.storeAddr (r.1 + 1) ≠ some p → s.ram.wf = true →
        ramRead t.ram p = hiByte v) ∧
      SystemKept (w.writeByte (r.1 + 1) (loByte v)) t ∧ t.cyc = r.2.cyc

/-- O20. For LEAX, LEAY, LEAU and LEAS with every indexed operand (leax, leay, leau, leas), in every state: exec answers
a next state in which the target is the effective address, Z says for LEAX and LEAY whether it is 0, no other flag
changes, every other register but an advanced base register is unchanged and RAM is unchanged. -/
def Obligations.LoadEffectiveAddress : Prop :=
  ∀ (k : IdxReg) (ix : Indexed) (s : State), let r := s.resolveIndexed (some k) ix
    ∃ t, exec (lea k ix) s = .next t ∧ readReg t.regs (nameOf k) = r.1 ∧
      FlagsSet s t (if k = .x ∨ k = .y then [(.z, r.1 == 0)] else []) ∧
      OperandFrame s r.2 t (autoOfMode ix.mode) [nameOf k]

/-- O21. For every source and destination code (tfr), in every state: exec answers a next state whose registers, CC
included, are those of before with the value of the source code, read by the table at the width of the destination,
written to the destination code; an undefined destination discards; nothing outside the registers changes. -/
def Obligations.TransferBetweenRegisters : Prop :=
  ∀ (src dst : BitVec 4) (s : State),
    exec (.tfr src dst) s = .next { s with regs := writeCode dst (codeValue s.regs src dst) s.regs }

/-- O22. For every pair of codes (exg), in every state: exec answers a next state whose registers are those of before
with the second code written from the first and then the first code written from the second, both values read
before, each at the width of the code it is written to; nothing outside the registers changes. For two codes of 0 to
5, or two codes of 8 to 0xB, EXG run twice gives the state it began with; of two codes of different widths or an
undefined code the first clause alone speaks. -/
def Obligations.ExchangeOfRegisters : Prop :=
  (∀ (c1 c2 : BitVec 4) (s : State),
    exec (.exg c1 c2) s =
      .next { s with regs := writeCode c1 (codeValue s.regs c2 c1) (writeCode c2 (codeValue s.regs c1 c2) s.regs) }) ∧
  ∀ (c1 c2 : BitVec 4) (s t u : State),
    ((c1.toNat ≤ 5 ∧ c2.toNat ≤ 5) ∨ (8 ≤ c1.toNat ∧ c1.toNat ≤ 0xB ∧ 8 ≤ c2.toNat ∧ c2.toNat ≤ 0xB)) →
    exec (.exg c1 c2) s = .next t → exec (.exg c1 c2) t = .next u → u = s

/-- O23. For ADDA, ADDB (no carry in) and ADCA, ADCB (the C flag in) in every operand form (the Imm, Dir, Idx and Ext
constructors of adda, addb, adca, adcb), in every state: exec answers a next state in which the accumulator is the
sum modulo 256, H is the carry from bit 3, N and Z follow the result, V is bit 7 of (a xor r) and (m xor r), C says
that the sum exceeds 255; I, F, E and every other register and byte of RAM are unchanged but for an advanced index
register. -/
def Obligations.AdditionToAccumulators : Prop :=
  ∀ (k : Acc) (withCarry : Bool) (o : Src8) (s : State), let r := s.operand8 o
    let a := r.2.acc k; let cin := (withCarry && s.flag .c).toNat
    let sum := a.toNat + r.1.toNat + cin; let res : Byte := BitVec.ofNat 8 sum
    ∃ t, exec (addInstr k withCarry o) s = .next t ∧ t.acc k = res ∧
      FlagsSet s t [(.h, decide (15 < a.toNat % 16 + r.1.toNat % 16 + cin)), (.n, res.msb), (.z, res == 0),
        (.v, ((a ^^^ res) &&& (r.1 ^^^ res)).getLsbD 7), (.c, decide (255 < sum))] ∧
      OperandFrame s r.2 t (auto8 o) [accName k]

/-- O24. For SUBA, SUBB (no borrow in) and SBCA, SBCB (the C flag in) in every operand form (the Imm, Dir, Idx and Ext
constructors of suba, subb, sbca, sbcb), in every state: exec answers a next state in which the accumulator is the
difference modulo 256, N and Z follow the result, V is bit 7 of (a xor m) and (a xor r), C says that the exact
difference is negative; H, I, F, E and every other register and byte of RAM are unchanged but for an advanced index
register. -/
def Obligations.SubtractionFromAccumulators : Prop :=
  ∀ (k : Acc) (withCarry : Bool) (o : Src8) (s : State), let r := s.operand8 o
    let a := r.2.acc k; let cin := (withCarry && s.flag .c).toNat
    let diff : Int := a.toNat - r.1.toNat - cin; let res : Byte := BitVec.ofInt 8 diff
    ∃ t, exec (subInstr k withCarry o) s = .next t ∧ t.acc k = res ∧
      FlagsSet s t [(.n, res.msb), (.z, res == 0), (.v, ((a ^^^ r.1) &&& (a ^^^ res)).getLsbD 7), (.c, decide (diff < 0))] ∧
      OperandFrame s r.2 t (auto8 o) [accName k]

/-- O25. For CMPA and CMPB in every operand form (the Imm, Dir, Idx and Ext constructors of cmpa and cmpb), in every
state: exec answers a next state with N, Z, V and C of the difference accumulator minus operand, H, I, F, E
unchanged, and every register but an advanced index register and every byte of RAM unchanged. -/
def Obligations.ComparisonOfAccumulators : Prop :=
  ∀ (k : Acc) (o : Src8) (s : State), let r := s.operand8 o
    let a := r.2.acc k; let diff : Int := a.toNat - r.1.toNat; let res : Byte := BitVec.ofInt 8 diff
    ∃ t, exec (cmpInstr k o) s = .next t ∧
      FlagsSet s t [(.n, res.msb), (.z, res == 0), (.v, ((a ^^^ r.1) &&& (a ^^^ res)).getLsbD 7), (.c, decide (diff < 0))] ∧
      OperandFrame s r.2 t (auto8 o) []

/-- O26. For ANDA, ANDB, ORA, ORB, EORA and EORB in every operand form (the Imm, Dir, Idx and Ext constructors of anda,
andb, ora, orb, eora, eorb), in every state: exec answers a next state in which bit i of the accumulator is the and,
or or exclusive or of bit i of the two operands, for every i below 8; N and Z follow the result and V is 0; every
other flag, register and byte of RAM is unchanged but for an advanced index register. -/
def Obligations.LogicOnAccumulators : Prop :=
  ∀ (op : LogicOp) (k : Acc) (o : Src8) (s : State), let r := s.operand8 o
    ∃ t, exec (logicInstr op k o) s = .next t ∧
      (∀ i, i < 8 → (t.acc k).getLsbD i = logicBit op ((r.2.acc k).getLsbD i) (r.1.getLsbD i)) ∧
      FlagsSet s t [(.n, (t.acc k).msb), (.z, t.acc k == 0), (.v, false)] ∧
      OperandFrame s r.2 t (auto8 o) [accName k]

/-- O27. For BITA and BITB in every operand form (the Imm, Dir, Idx and Ext constructors of bita and bitb), in every
state: exec answers a next state with N, the common bit 7, Z, that no bit is set in both, and V 0; every other flag,
every register but an advanced index register and every byte of RAM is unchanged. -/
def Obligations.BitTestOfAccumulators : Prop :=
  ∀ (k : Acc) (o : Src8) (s : State), let r := s.operand8 o; let a := r.2.acc k
    ∃ t, exec (bitInstr k o) s = .next t ∧
      FlagsSet s t [(.n, a.getLsbD 7 && r.1.getLsbD 7), (.z, (a &&& r.1) == 0), (.v, false)] ∧
      OperandFrame s r.2 t (auto8 o) []

/-- O28. DAA (daa), in every state: exec answers a next state in which A is A plus the correction modulo 256, N and Z
follow it, C is kept or set by a sum above 255, V is the free value of the draw (log 7; the statement holds whatever
it is), H, I, F, E and every other register are unchanged, RAM is unchanged and one free value is drawn. -/
def Obligations.DecimalAdjustOfA : Prop :=
  ∀ s : State, let a := s.regs.a; let lsn := a.toNat % 16; let msn := a.toNat / 16
    let low := if s.flag .h = true ∨ 9 < lsn then 0x06 else 0
    let high := if s.flag .c = true ∨ 9 < msn ∨ (8 < msn ∧ 9 < lsn) then 0x60 else 0
    let sum := a.toNat + (low + high); let res : Byte := BitVec.ofNat 8 sum
    ∃ t, exec .daa s = .next t ∧ t.regs.a = res ∧
      FlagsSet s t [(.n, res.msb), (.z, res == 0), (.v, Config.freeBit s.draws),
        (.c, s.flag .c || decide (255 < sum))] ∧
      RegsKept s t [.a] ∧ RamKept s t [] ∧ SystemKept { s with draws := s.draws + 1 } t ∧ t.cyc = s.cyc

/-- O29. For two bytes whose nibbles are decimal digits, and a carry in: with the H and C of their binary addition, the
decimal adjustment of the binary sum holds the digits of the decimal sum modulo 100 and its C says that the decimal
sum is 100 or more. -/
def Obligations.DecimalAdjustGivesTheDecimalSum : Prop :=
  ∀ (x y : Byte) (cin freeV : Bool),
    x.toNat % 16 < 10 → x.toNat / 16 < 10 → y.toNat % 16 < 10 → y.toNat / 16 < 10 →
      let sum := add8 x y cin
      let n := 10 * (x.toNat / 16) + x.toNat % 16 + (10 * (y.toNat / 16) + y.toNat % 16) + cin.toNat
      let out := daa8 sum.r (sum.fl.c == some true) (sum.fl.h == some true) freeV
      out.r.toNat = 16 * (n % 100 / 10) + n % 10 ∧ out.fl.c = some (decide (100 ≤ n))

/-- O30. MUL (mul), in every state: exec answers a next state in which D is A times B exactly, Z says that it is 0, C is
bit 7 of the low byte, and every other flag, register and byte of RAM and the rest of the machine is unchanged. -/
def Obligations.MultiplyAccumulators : Prop :=
  ∀ s : State, ∃ t, exec .mul s = .next t ∧
    t.d.toNat = s.regs.a.toNat * s.regs.b.toNat ∧
    FlagsSet s t [(.z, t.d == 0), (.c, t.d.getLsbD 7)] ∧
    RegsKept s t [.a, .b] ∧ RamKept s t [] ∧ SystemKept s t ∧ t.cyc = s.cyc

/-- O31. SEX (sex), in every state: exec answers a next state in which D as a signed number is B as a signed number, N
and Z follow it, V is 0 where the parameter SEX_V is Cleared and unchanged where it is Unchanged (its default, log
9), and every other flag and register is unchanged. ABX (abx): X is X plus B modulo 65536 and nothing else changes.
RAM and the rest of the machine are unchanged by both. -/
def Obligations.SignExtendAndAddToX : Prop :=
  ∀ s : State,
    (∃ t, exec .sex s = .next t ∧ t.d.toInt = s.regs.b.toInt ∧
      FlagsSet s t
        ([(.n, s.regs.b.msb), (.z, s.regs.b == 0)] ++ if s.params.sexV = .cleared then [(.v, false)] else []) ∧
      RegsKept s t [.a, .b] ∧ t.regs.b = s.regs.b ∧ RamKept s t [] ∧ SystemKept s t ∧ t.cyc = s.cyc) ∧
    ∃ t, exec .abx s = .next t ∧ t.regs.x.toNat = (s.regs.x.toNat + s.regs.b.toNat) % 65536 ∧
      FlagsSet s t [] ∧ RegsKept s t [.x] ∧ RamKept s t [] ∧ SystemKept s t ∧ t.cyc = s.cyc

/-- O32. For ADDD and SUBD in every operand form (the Imm, Dir, Idx and Ext constructors of addd and subd), in every
state: exec answers a next state in which D is the sum or the difference modulo 65536, N and Z follow it, V is bit
15 of the exclusive-or formula, C the carry or the borrow; H, I, F, E and every other register and byte of RAM are
unchanged but for an advanced index register. -/
def Obligations.AdditionAndSubtractionOnD : Prop :=
  ∀ (o : Src16) (s : State), let r := s.operand16 o; let a := r.2.d
    (let sum := a.toNat + r.1.toNat; let res : Word := BitVec.ofNat 16 sum
      ∃ t, exec (Instr.addd o) s = .next t ∧ t.d = res ∧
        FlagsSet s t [(.n, res.msb), (.z, res == 0), (.v, ((a ^^^ res) &&& (r.1 ^^^ res)).getLsbD 15),
          (.c, decide (65535 < sum))] ∧
        OperandFrame s r.2 t (auto16 o) [.a, .b]) ∧
    let diff : Int := a.toNat - r.1.toNat; let res : Word := BitVec.ofInt 16 diff
    ∃ t, exec (Instr.subd o) s = .next t ∧ t.d = res ∧
      FlagsSet s t [(.n, res.msb), (.z, res == 0), (.v, ((a ^^^ r.1) &&& (a ^^^ res)).getLsbD 15), (.c, decide (diff < 0))] ∧
      OperandFrame s r.2 t (auto16 o) [.a, .b]

/-- O33. For CMPD, CMPX, CMPY, CMPU and CMPS in every operand form (the Imm, Dir, Idx and Ext constructors of cmpd,
cmpx, cmpy, cmpu, cmps), in every state: exec answers a next state with N, Z, V and C of the register (after any
write-back) minus the operand, H, I, F, E unchanged, and every register but an advanced index register and every
byte of RAM unchanged. -/
def Obligations.ComparisonOfWordRegisters : Prop :=
  ∀ (k : Reg16) (o : Src16) (s : State), let r := s.operand16 o; let a := r.2.get16 k
    let diff : Int := a.toNat - r.1.toNat; let res : Word := BitVec.ofInt 16 diff
    ∃ t, exec (cmpWord k o) s = .next t ∧
      FlagsSet s t [(.n, res.msb), (.z, res == 0), (.v, ((a ^^^ r.1) &&& (a ^^^ res)).getLsbD 15), (.c, decide (diff < 0))] ∧
      OperandFrame s r.2 t (auto16 o) []

/-- O34. For the ten operations with a direct, indexed or extended operand (the Dir, Idx and Ext constructors of neg,
com, lsr, ror, asr, asl, rol, dec, inc, clr), in every state: exec answers a next state; the result of the byte
read, as exact arithmetic cut to 8 bits, is stored at the same address after the read; every other byte of RAM reads
as before; exactly the flags the operation writes have their values; no register but an advanced index register
changes; the rest is as the one bus read and the one bus write leave it. -/
def Obligations.UnaryOperationsOnMemory : Prop :=
  ∀ (op : UnaryOp) (m : MemOp) (s : State), let r := s.ea m; let v := r.2.readByte r.1
    let res := unaryResult op v.1 (s.flag .c)
    ∃ t, exec (unaryMem op m) s = .next t ∧ FlagsSet s t (unaryFlags op v.1 (s.flag .c)) ∧
      RegsKept r.2 t [] ∧ RegsKept s t (autoOf m) ∧
      RamKept s t (v.2.storeAddr r.1).toList ∧
      (∀ p, v.2.storeAddr r.1 = some p → s.ram.wf = true → ramRead t.ram p = res) ∧
      SystemKept (v.2.writeByte r.1 res) t ∧ t.cyc = r.2.cyc

/-- O35. For NEGA, NEGB, COMA, COMB, LSRA, LSRB, RORA, RORB, ASRA, ASRB, ASLA, ASLB, ROLA, ROLB, DECA, DECB, INCA, INCB,
CLRA and CLRB, in every state: exec answers a next state in which the accumulator is the result as exact arithmetic
cut to 8 bits, exactly the flags the operation writes have their values, and every other register, every byte of RAM
and the rest of the machine is unchanged. -/
def Obligations.UnaryOperationsOnAccumulators : Prop :=
  ∀ (op : UnaryOp) (k : Acc) (s : State), ∃ t, exec (unaryAcc op k) s = .next t ∧
    t.acc k = unaryResult op (s.acc k) (s.flag .c) ∧ FlagsSet s t (unaryFlags op (s.acc k) (s.flag .c)) ∧
    RegsKept s t [accName k] ∧ RamKept s t [] ∧ SystemKept s t ∧ t.cyc = s.cyc

/-- O36. For TST with a direct, indexed or extended operand (tstDir, tstIdx, tstExt) and TSTA, TSTB (tsta, tstb), in
every state: exec answers a next state with N and Z of the byte and V 0, every other flag, every register but an
advanced index register and every byte of RAM unchanged; the memory form reads once and writes nothing. -/
def Obligations.TestsForNegativeOrZero : Prop :=
  (∀ (m : MemOp) (s : State), let r := s.operand8 (.mem m)
    ∃ t, exec (Instr.tst m) s = .next t ∧ FlagsSet s t [(.n, r.1.msb), (.z, r.1 == 0), (.v, false)] ∧
      OperandFrame s r.2 t (autoOf m) []) ∧
  ∀ (k : Acc) (s : State), ∃ t, exec (tstAcc k) s = .next t ∧
    FlagsSet s t [(.n, (s.acc k).msb), (.z, s.acc k == 0), (.v, false)] ∧
    RegsKept s t [] ∧ RamKept s t [] ∧ SystemKept s t ∧ t.cyc = s.cyc

/-- O37. For BRA, BRN, BHI, BLS, BCC, BCS, BNE, BEQ, BVC, BVS, BPL, BMI, BGE, BLT, BGT, BLE and LBRA, LBRN, LBHI, LBLS,
LBCC, LBCS, LBNE, LBEQ, LBVC, LBVS, LBPL, LBMI, LBGE, LBLT, LBGT, LBLE, in every state: exec answers the state with
PC plus the offset, as a signed sum modulo 65536, when the condition of the table holds of C, Z, N and V, and the
state unchanged when it does not. A taken page-2 long branch (all but LBRA) adds one cycle. -/
def Obligations.ConditionalBranches : Prop :=
  ∀ (k : Cond) (s : State),
    let cond := taken k (s.flag .c) (s.flag .z) (s.flag .n) (s.flag .v)
    (∀ r : Byte, let target : Word := BitVec.ofInt 16 (s.regs.pc.toNat + r.toInt)
      (cond → exec (shortBranch k r) s = .next { s with regs := { s.regs with pc := target } }) ∧
      (¬ cond → exec (shortBranch k r) s = .next s)) ∧
    ∀ r : Word, let target : Word := BitVec.ofInt 16 (s.regs.pc.toNat + r.toInt)
      (cond → exec (longBranchInstr k r) s =
        .next { s with regs := { s.regs with pc := target }, cyc := s.cyc + if k = .always then 0 else 1 }) ∧
      (¬ cond → exec (longBranchInstr k r) s = .next s)

/-- O38. For all bytes a and m and any CC before: with the flags of a minus m written to CC, BHI, BLS, BCC, BCS hold
exactly when a is above, not above, not below, below m as unsigned numbers, BEQ and BNE by equality, and BGT, BLE,
BGE, BLT by the order as signed numbers. -/
def Obligations.BranchesAfterACompare : Prop :=
  ∀ (a m cc : Byte), let f := applyFlags (sub8 a m false).fl cc
    condHolds .hi f = decide (m.toNat < a.toNat) ∧ condHolds .ls f = decide (a.toNat ≤ m.toNat) ∧
    condHolds .cc f = decide (m.toNat ≤ a.toNat) ∧ condHolds .cs f = decide (a.toNat < m.toNat) ∧
    condHolds .eq f = decide (a = m) ∧ condHolds .ne f = decide (a ≠ m) ∧
    condHolds .gt f = decide (m.toInt < a.toInt) ∧ condHolds .le f = decide (a.toInt ≤ m.toInt) ∧
    condHolds .ge f = decide (m.toInt ≤ a.toInt) ∧ condHolds .lt f = decide (a.toInt < m.toInt)

/-- O39. BSR and LBSR with every offset (bsr, lbsr) and JSR with a direct, indexed or extended operand (jsrDir, jsrIdx,
jsrExt), in every state: exec answers a next state in which PC is the target (known before the push), S is 2 less,
RAM is what pushing the return address, low byte and then high byte, leaves (each byte at its address below S where
that reaches RAM), and every byte outside the two, every flag and every other register but an advanced index
register are unchanged. -/
def Obligations.CallsPushTheReturnAddress : Prop :=
  ∀ s : State,
    (∀ r : Byte, ∃ t, exec (.bsr r) s = .next t ∧
      CallEffect s s t (BitVec.ofInt 16 (s.regs.pc.toNat + r.toInt)) []) ∧
    (∀ r : Word, ∃ t, exec (.lbsr r) s = .next t ∧
      CallEffect s s t (BitVec.ofInt 16 (s.regs.pc.toNat + r.toInt)) []) ∧
    ∀ m : MemOp, ∃ t, exec (Instr.jsr m) s = .next t ∧ CallEffect s (s.ea m).2 t (s.ea m).1 (autoOf m)

/-- O40. In every state: JMP with a direct, indexed or extended operand (jmpDir, jmpIdx, jmpExt) answers a next state
with PC at the effective address and no flag, other register (but an advanced one) or byte of RAM changed; RTS (rts)
one with PC the big-endian word of two bytes pulled from S, S 2 more and nothing else changed but by those reads;
NOP (nop) the same state; SYNC (sync) the state with the soft halt SyncWait. -/
def Obligations.JumpsReturnsAndNoOperation : Prop :=
  ∀ s : State,
    (∀ m : MemOp, ∃ t, exec (Instr.jmp m) s = .next t ∧ t.regs.pc = (s.ea m).1 ∧ FlagsSet s t [] ∧
      OperandFrame s (s.ea m).2 t (autoOf m) [.pc]) ∧
    (let r := pullSeq .s s 2
      ∃ t, exec .rts s = .next t ∧ t.regs = { s.regs with pc := wordAt r.1 0, s := s.regs.s + 2 } ∧
        RamKept s t [] ∧ SystemKept r.2 t ∧ ReadEffect s t ∧ t.cyc = s.cyc) ∧
    exec .nop s = .next s ∧ exec .sync s = .next { s with halt := .syncWait }

/-- O41. When the two bytes below S are plain RAM and RAM is in its canonical form: after BSR, RTS gives a state whose
registers, S and PC included, are those before the BSR, for every offset. -/
def Obligations.CallThenReturnComesBack : Prop :=
  ∀ (s t u : State) (r : Byte), s.ram.wf = true → PlainRam s (s.regs.s - 2) 2 →
    exec (.bsr r) s = .next t → exec .rts t = .next u → u.regs = s.regs

/-- O42. For every mask (pshs, pshu), in every state: exec answers a next state; the bytes pushed are PC, the other
pointer, Y, X, DP, B, A, CC as the mask selects them, each word low byte first, with the values before the
instruction; the pointer is lower by their number, every other register and every flag is unchanged, RAM outside the
bytes addresses is unchanged, and the cycle total grows by their number, which is one for each of bits 0 to 3 and
two for each of bits 4 to 7. -/
def Obligations.PushesOfRegisters : Prop :=
  ∀ (k : Stack) (mask : Byte) (s : State), let bytes := stackImage k mask s.regs
    ∃ t, exec (pushInstr k mask) s = .next t ∧
      PushEffect k s t bytes ∧ FlagsSet s t [] ∧
      t.ram = (pushAll k s bytes).ram ∧ bytes.length = stackBytes mask ∧ t.cyc = s.cyc + bytes.length

/-- O43. For every mask (puls, pulu), in every state: exec answers a next state; with the bytes read in order from the
pointer up, CC, A, B, DP, X, Y, the other pointer and PC get the byte or big-endian word at the place that the lower
bits of the mask give, where the mask selects them, and keep their value where it does not; the pointer is higher by
the number of bytes, RAM is unchanged, and the rest of the machine is as those reads leave it. -/
def Obligations.PullsOfRegisters : Prop :=
  ∀ (k : Stack) (mask : Byte) (s : State), let r := pullSeq k s (stackBytes mask)
    ∃ t, exec (pullInstr k mask) s = .next t ∧ t.regs = pulledRegs k mask r.1 s.regs ∧
      RamKept s t [] ∧ SystemKept r.2 t ∧ ReadEffect s t ∧ t.cyc = s.cyc + stackBytes mask

/-- O44. When the bytes pushed lie in plain RAM and RAM is in its canonical form: after the push of a mask, the pull of
the same mask gives a state with every register, the pointer included, as before the push. -/
def Obligations.PushThenPullRestores : Prop :=
  ∀ (k : Stack) (mask : Byte) (s t u : State), s.ram.wf = true →
    PlainRam s (s.sp k - BitVec.ofNat 16 (stackBytes mask)) (stackBytes mask) →
    exec (pushInstr k mask) s = .next t →
    exec (pullInstr k mask) t = .next u → u.regs = s.regs

/-- O45. ANDCC and ORCC (andcc, orcc), in every state: exec answers a next state in which each of the eight flags is its
value before and, or or, the bit of the immediate; every register, byte of RAM and the rest of the machine is
unchanged. -/
def Obligations.AndccAndOrcc : Prop :=
  ∀ (m : Byte) (s : State),
    (∃ t, exec (.andcc m) s = .next t ∧ (∀ k, t.flag k = (s.flag k && m.getLsbD (flagBit k))) ∧
      RegsKept s t [] ∧ RamKept s t [] ∧ SystemKept s t ∧ t.cyc = s.cyc) ∧
    ∃ t, exec (.orcc m) s = .next t ∧ (∀ k, t.flag k = (s.flag k || m.getLsbD (flagBit k))) ∧
      RegsKept s t [] ∧ RamKept s t [] ∧ SystemKept s t ∧ t.cyc = s.cyc

/-- O46. For SWI, SWI2 and SWI3 (swi, swi2, swi3), in every state: exec answers a next state in which PC is the big-
endian word of the internal ROM at 0x7FFA, 0x7FF4 or 0x7FF2, S is 12 less, the twelve bytes pushed are those of the
registers with E set and I and F as before, E is set, SWI alone sets I and F as well, every other register and flag
and every byte of RAM elsewhere is unchanged, and the rest is as the pushes leave it. -/
def Obligations.SoftwareInterruptsStackAndVector : Prop :=
  ∀ e ∈ softwareInterrupts, ∀ s : State, let bytes := frameBytes s true 0xFF
    ∃ t, exec e.1 s = .next t ∧ EntryEffect s t true 0xFF e.2.1 e.2.2 ∧
      t.ram = (pushAll .s s bytes).ram ∧ SystemKept (pushAll .s s bytes) t ∧ t.cyc = s.cyc

/-- O47. RTI (rti), in every state: exec answers a next state. With bit 7 of the first byte set, CC, A, B, DP, X, Y, U
and PC are the twelve bytes pulled from S in that order, S is 12 more and the cycle total 9 more; otherwise CC and
PC are the three bytes pulled, S is 3 more and every other register is unchanged. RAM is unchanged and the rest is
as those reads leave it. -/
def Obligations.ReturnFromInterruptByPulledE : Prop :=
  ∀ s : State, let n := if ((s.readByte s.regs.s).1).getLsbD 7 then 12 else 3
    let r := pullSeq .s s n; let b := r.1
    ∃ t, exec .rti s = .next t ∧
      t.regs =
        (if n = 12 then
          { cc := byteAt b 0, a := byteAt b 1, b := byteAt b 2, dp := byteAt b 3, x := wordAt b 4, y := wordAt b 6
            u := wordAt b 8, pc := wordAt b 10, s := s.regs.s + 12 }
        else { s.regs with cc := byteAt b 0, pc := wordAt b 1, s := s.regs.s + 3 }) ∧
      RamKept s t [] ∧ SystemKept r.2 t ∧ ReadEffect s t ∧ t.cyc = s.cyc + if n = 12 then 9 else 0

/-- O48. When the twelve bytes below S are plain RAM and RAM is in its canonical form: after any of the three software
interrupts, RTI gives a state with A, B, DP, X, Y, U, S and PC as before the interrupt, and CC as before but with E
set (so I and F as before). -/
def Obligations.ExceptionThenReturnRestores : Prop :=
  ∀ e ∈ softwareInterrupts, ∀ s t u : State, s.ram.wf = true → PlainRam s (s.regs.s - 12) 12 →
    exec e.1 s = .next t → exec .rti t = .next u → u.regs = { s.regs with cc := s.regs.cc ||| 0x80 }

/-- O49. CWAI (cwai) with every mask, in every state: exec answers a next state in which each flag but E is its value
before and the bit of the mask, E is 1, the twelve bytes pushed are those of the registers with that CC, S is 12
less, every other register (PC included) and every byte of RAM elsewhere is unchanged, the soft halt is CwaiWait,
and the rest is as the pushes leave it. -/
def Obligations.WaitForInterruptStacksFirst : Prop :=
  ∀ (m : Byte) (s : State), let cc := (s.regs.cc &&& m) ||| 0x80
    let bytes := stackImage .s 0xFF { s.regs with cc := cc }
    ∃ t, exec (.cwai m) s = .next t ∧ t.regs = { s.regs with cc := cc, s := s.regs.s - 12 } ∧
      RamKept s t (pushTargets .s s bytes) ∧ t.ram = (pushAll .s s bytes).ram ∧ t.halt = .cwaiWait ∧
      SystemKept { pushAll .s s bytes with halt := .cwaiWait } t ∧ t.cyc = s.cyc

/-- O50. In every state with the NMI line pending in which RESET does not come first (RESET_FIRST false, its default by
log 9, or RESET not pending), whatever the other lines and masks: the interrupt check empties the NMI line and the
soft halt. Outside CWAI it stacks the whole register set with E set on S, sets E, F and I, takes the vector and adds
INT_CYCLES.NMI. In the CWAI wait it stacks nothing and does not write E, sets F and I, takes the vector and adds
INT_CYCLES.skip. The defaults 19 and 7 of the two figures are log 9; the statement holds for every value. -/
def Obligations.NmiServiceComesFirst : Prop :=
  ∀ s : State, ResetWaits s → s.lines.nmiExt = true → let t := s.interruptCheck
    (s.halt ≠ .cwaiWait → let p := pushAll .s s (frameBytes s true 0xFF)
      EntryEffect s t true 0xFF [(.e, true), (.f, true), (.i, true)] 0x7FFC ∧ t.ram = p.ram ∧
      SystemKept { p with halt := .none, lines := { p.lines with nmiExt := false } } t ∧
      t.cyc = s.cyc + s.params.intCyclesNmi) ∧
    (s.halt = .cwaiWait →
      t.regs.pc = joinBytes (s.intRom 0x7FFC) (s.intRom 0x7FFD) ∧ RegsKept s t [.pc] ∧
      FlagsSet s t [(.f, true), (.i, true)] ∧ t.ram = s.ram ∧
      SystemKept { s with halt := .none, lines := { s.lines with nmiExt := false } } t ∧
      t.cyc = s.cyc + s.params.intCyclesSkip)

/-- O51. With no NMI pending and RESET not coming first (RESET_FIRST false or RESET not pending): a pending FIRQ with F
= 0 stacks PC and CC with E clear on S, clears E, sets F and I, takes the vector 0xFFF6 and adds INT_CYCLES.FIRQ.
With FIRQ not pending, or F = 1 and MASKED_LINE_BLOCKS false, a pending IRQ with I = 0 stacks the whole set with E
set, sets E and I, leaves F, takes 0xFFF8 and adds INT_CYCLES.IRQ. In the CWAI wait either stacks nothing, does not
write E and adds INT_CYCLES.skip. Every source bit stays as the pushes leave it, and the soft halt ends. The
defaults of the parameters (10, 19 and 7, both switches false) are log 9; the statement holds for every value. -/
def Obligations.FirqAndIrqServiceWhenUnmasked : Prop :=
  ∀ s : State, ResetWaits s → s.lines.nmiExt = false → let t := s.interruptCheck
    (s.lines.firq.any = true → s.flag .f = false →
      (s.halt ≠ .cwaiWait → let p := pushAll .s s (frameBytes s false 0x81)
        EntryEffect s t false 0x81 [(.e, false), (.f, true), (.i, true)] 0x7FF6 ∧ t.ram = p.ram ∧
        SystemKept { p with halt := .none } t ∧ t.cyc = s.cyc + s.params.intCyclesFirq) ∧
      (s.halt = .cwaiWait →
        t.regs.pc = joinBytes (s.intRom 0x7FF6) (s.intRom 0x7FF7) ∧ RegsKept s t [.pc] ∧
        FlagsSet s t [(.f, true), (.i, true)] ∧ t.ram = s.ram ∧ SystemKept { s with halt := .none } t ∧
        t.cyc = s.cyc + s.params.intCyclesSkip)) ∧
    (FirqIdle s → ¬ FirqBlocks s → s.lines.irq.any = true → s.flag .i = false →
      (s.halt ≠ .cwaiWait → let p := pushAll .s s (frameBytes s true 0xFF)
        EntryEffect s t true 0xFF [(.e, true), (.i, true)] 0x7FF8 ∧ t.ram = p.ram ∧
        SystemKept { p with halt := .none } t ∧ t.cyc = s.cyc + s.params.intCyclesIrq) ∧
      (s.halt = .cwaiWait →
        t.regs.pc = joinBytes (s.intRom 0x7FF8) (s.intRom 0x7FF9) ∧ RegsKept s t [.pc] ∧
        FlagsSet s t [(.i, true)] ∧ t.ram = s.ram ∧ SystemKept { s with halt := .none } t ∧
        t.cyc = s.cyc + s.params.intCyclesSkip))

/-- O52. RESET pending, and first by RESET_FIRST or after no pending NMI, no servable FIRQ or IRQ and no masked line
that blocks (MASKED_LINE_BLOCKS): the check loads PC from the internal ROM at 0x7FFE, sets I and F and clears DP if
RESET_INIT_CC_DP asks for it, empties the RESET line, adds 2 cycles, ends any soft halt and changes nothing else.
With no NMI and no RESET served: when a masked pending FIRQ blocks, or FIRQ has nothing to serve and a masked
pending IRQ blocks, or none of FIRQ, IRQ and RESET has anything to serve, the check ends a SYNC wait if FIRQ is
pending, or IRQ is and the check reaches it, and otherwise leaves the state as it is (a CWAI wait or an invalid-
opcode halt goes on). The defaults of the three switches (false) are log 9; the statement holds for every value. -/
def Obligations.MaskedLinesAndReset : Prop :=
  ∀ s : State,
    (s.lines.resetHost = true →
      (s.params.resetFirst = true ∨
        (s.lines.nmiExt = false ∧ FirqIdle s ∧ IrqIdle s ∧ ¬ FirqBlocks s ∧ ¬ IrqBlocks s)) →
      s.interruptCheck =
        { s with
          regs := resetRegs s
          halt := .none
          cyc := s.cyc + 2
          lines := { s.lines with resetHost := false } }) ∧
    (ResetWaits s → s.lines.nmiExt = false →
      (FirqBlocks s ∨ (FirqIdle s ∧ IrqIdle s ∧ (IrqBlocks s ∨ s.lines.resetHost = false))) →
      s.interruptCheck =
        if s.halt = .syncWait ∧ (s.lines.firq.any = true ∨ s.lines.irq.any = true) then { s with halt := .none }
        else s)

/-- O53. For all 8-bit a, b and carry in: V of the addition is 1 exactly when the signed sum is outside -128..127, C
exactly when the unsigned sum exceeds 255, H exactly when the low nibbles and the carry exceed 15; V of the
subtraction exactly when the signed difference is outside -128..127, C exactly when a is below b plus the borrow.
Likewise for 16 bits with -32768..32767 and 65535. -/
def Obligations.OverflowCarryAndHalfCarry : Prop :=
  (∀ (a b : Byte) (cin : Bool),
    let sum := a.toInt + b.toInt + cin.toNat
    let diff := a.toInt - b.toInt - cin.toNat
    (add8 a b cin).fl.v = some (decide (sum < -128 ∨ 127 < sum)) ∧
    (add8 a b cin).fl.c = some (decide (255 < a.toNat + b.toNat + cin.toNat)) ∧
    (add8 a b cin).fl.h = some (decide (15 < a.toNat % 16 + b.toNat % 16 + cin.toNat)) ∧
    (sub8 a b cin).fl.v = some (decide (diff < -128 ∨ 127 < diff)) ∧
    (sub8 a b cin).fl.c = some (decide (a.toNat < b.toNat + cin.toNat))) ∧
  ∀ a b : Word,
    (add16 a b).fl.v = some (decide (a.toInt + b.toInt < -32768 ∨ 32767 < a.toInt + b.toInt)) ∧
    (add16 a b).fl.c = some (decide (65535 < a.toNat + b.toNat)) ∧
    (sub16 a b).fl.v = some (decide (a.toInt - b.toInt < -32768 ∨ 32767 < a.toInt - b.toInt)) ∧
    (sub16 a b).fl.c = some (decide (a.toNat < b.toNat))

/-- O54. For every state and address: from 0xFFE0 up the byte is that of the internal ROM at the address minus 0x8000;
below 0xFF00 it is the ROM byte of the window address that the mapping gives (under the MMU the banks of ROM_BANKS,
bank 0x3C + k at 0x8000 + k * 0x2000; without it 0x8000 and above, but for the constant-vector page where
CONST_VECTORS_OVERRIDE_ROM is set; neither in all-RAM mode), else the RAM byte at bank times 0x2000 plus the low 13
bits, or FIXED_BASE plus the address untranslated, masked to RAM_SIZE (the low ramBits bits). The defaults of the
parameters (0x3C to 0x3F, 0x70000, false, 0x80000) are log 9; the part of the window that a bank number outside 0x3C
to 0x3F reads is free (log 25), whatever it is; the statement holds for every value, 0x20000 of RAM among them.
Neither changes the state. Addresses 0xFF00 to 0xFFDF are the I/O registers, not stated here. -/
def Obligations.LogicalReadsAndTranslation : Prop :=
  ∀ (s : State) (a : Word),
    (0xFFE0 ≤ a.toNat → s.readByte a = (imageByte s.platform.internalRom (a.toNat - 0x8000), s)) ∧
    (a.toNat < 0xFF00 →
      s.readByte a =
        (match romWindow s a with
         | some l => romByte s l
         | none => ramRead s.ram (ramOf s a), s))

/-- O55. For every state, address and byte: from 0xFFE0 up the write leaves the state as it is; below 0xFF00, where a
read is routed to ROM and ROM_WRITE_POLICY is Discard, likewise; else only RAM changes, at the address of the
mapping, under ROM too (ToRAM, the default by log 9): that byte reads back when RAM is in its canonical form, which
the write keeps, and every other byte reads as before. -/
def Obligations.LogicalWritesBelowAndAboveIo : Prop :=
  ∀ (s : State) (a : Word) (v : Byte),
    (0xFFE0 ≤ a.toNat → s.writeByte a v = s) ∧
    (a.toNat < 0xFF00 → (romWindow s a).isSome = true → s.params.romWritePolicy = .discard →
      s.storeAddr a = none ∧ s.writeByte a v = s) ∧
    (a.toNat < 0xFF00 → (romWindow s a = none ∨ s.params.romWritePolicy = .toRam) →
      s.storeAddr a = some (ramOf s a) ∧
      s.writeByte a v = { s with ram := (s.writeByte a v).ram } ∧
      RamKept s (s.writeByte a v) [ramOf s a] ∧
      (s.ram.wf = true → ramRead (s.writeByte a v).ram (ramOf s a) = v ∧ (s.writeByte a v).ram.wf = true))

/-- O56. For every state with RAM in its canonical form, all addresses p and q and every byte: after a physical write at
p, a physical read at q gives the byte where p and q are equal in their low ramBits bits (the mask of RAM_SIZE, a
power of two, written as the remainder: log 15) and the old byte elsewhere; RAM keeps its canonical form; nothing
else changes. The default of RAM_SIZE, 0x80000, is log 9; the statement holds for every size. -/
def Obligations.PhysicalEntryReadsBack : Prop :=
  ∀ (s : State) (p q : Nat) (v : Byte), s.ram.wf = true → let size := 2 ^ s.params.ramBits
    (s.physWrite p v).physRead q = (if q % size = p % size then v else s.physRead q) ∧
    (s.physWrite p v).ram.wf = true ∧ s.physWrite p v = { s with ram := (s.physWrite p v).ram }

/-- O57. In every state, for each address from 0xFF00 to 0xFFDF. PIA0 and its mirrors to 0xFF1F, by the low two bits:
data A and control A draw a free byte; data B clears the VSYNC flag and PIA0_VSYNC and draws; CRB answers the flag,
a 0 and bits 5 to 0 and changes nothing. From 0xFF20 to 0xFF8F and at 0xFF96, 0xFF97: inside the window of a
peripheral that is present a free byte is drawn, else 0xFF is answered and nothing changes. 0xFF92 answers the IRQ
latch and clears it with the three GIME bits of the IRQ line; 0xFF93 the same for FIRQ; EXT_IRQ, EXT_FIRQ and each
other source keep their value. A bank register answers its six bits below two free bits. Every other address (INIT0,
INIT1, the timer, video, palette and SAM) draws a free byte. Draws are the free values of log 7, whatever they are;
which peripherals are present is log 17. -/
def Obligations.AcknowledgingReads : Prop :=
  ∀ (s : State) (a : Word), 0xFF00 ≤ a.toNat → a.toNat ≤ 0xFFDF → let n := a.toNat; let r := s.readByte a
    let drawn := fun t : State => (Config.freeByte t.draws, { t with draws := t.draws + 1 })
    (n ≤ 0xFF1F → n % 4 = 0 ∨ n % 4 = 1 → r = drawn s) ∧
    (n ≤ 0xFF1F → n % 4 = 2 →
      r = drawn
        { s with
          pia := { s.pia with vsyncFlag := false }
          lines := { s.lines with irq := { s.lines.irq with pia0Vsync := false } } }) ∧
    (n ≤ 0xFF1F → n % 4 = 3 →
      r.2 = s ∧ r.1.getLsbD 7 = s.pia.vsyncFlag ∧ r.1.getLsbD 6 = false ∧
        ∀ i, i < 6 → r.1.getLsbD i = s.pia.crb.getLsbD i) ∧
    ((0xFF20 ≤ n ∧ n ≤ 0xFF8F) ∨ n = 0xFF96 ∨ n = 0xFF97 →
      (Forwarded s a → r = drawn s) ∧ (¬ Forwarded s a → r = (0xFF, s))) ∧
    (n = 0xFF92 →
      r =
        (s.gime.irqFlags,
          { s with
            gime := { s.gime with irqFlags := 0 }
            lines :=
              { s.lines with irq := { s.lines.irq with gimeTmr := false, gimeVbord := false, gimeEnv := false } } })) ∧
    (n = 0xFF93 →
      r =
        (s.gime.firqFlags,
          { s with
            gime := { s.gime with firqFlags := 0 }
            lines :=
              { s.lines with firq := { s.lines.firq with gimeTmr := false, gimeVbord := false, gimeEnv := false } } })) ∧
    (0xFFA0 ≤ n ∧ n ≤ 0xFFAF →
      r.1.toNat = 64 * (Config.freePair s.draws).toNat + (s.gime.bank.toList.getD (n - 0xFFA0) 0).toNat ∧
        r.2 = { s with draws := s.draws + 1 }) ∧
    (n = 0xFF90 ∨ n = 0xFF91 ∨ n = 0xFF94 ∨ n = 0xFF95 ∨ (0xFF98 ≤ n ∧ n ≤ 0xFF9F) ∨ 0xFFB0 ≤ n → r = drawn s)

/-- O58. In every state, for every byte v: a write to 0xFFA0 + i sets bank register i to v[5:0] and no other; to 0xFFC0
+ 2k clears and to 0xFFC0 + 2k + 1 sets SAM field k; to 0xFF94 and 0xFF95 sets the high nibble and the low byte of
the timer value and reloads the counter with the value plus TIMER_OFFSET; to 0xFF90 to 0xFF93 stores INIT0, INIT1
and the enable masks without touching latches or lines; to 0xFF98 + i and 0xFFB0 + i stores video and palette byte i
and no other. At 0xFF00 to 0xFF1F, by the low two bits: data A, control A or data B is stored, or CRB bits 5 to 0
are set and PIA0_VSYNC becomes the flag and bit 0. From 0xFF20 to 0xFF8F and at 0xFF96, 0xFF97 the state is
unchanged, a forwarded write included (log 17). -/
def Obligations.ControlRegisterWrites : Prop :=
  ∀ (s : State) (v : Byte),
    (∀ i : BitVec 4, ∃ t, s.writeByte (0xFFA0 + i.setWidth 16) v = t ∧
      (∀ j : Fin 16, t.gime.bank[j] = if j.val = i.toNat then v.extractLsb' 0 6 else s.gime.bank[j]) ∧
      t = { s with gime := { s.gime with bank := t.gime.bank } }) ∧
    (∀ (k : BitVec 4) (b : Bool), ∃ t, s.writeByte (0xFFC0 + 2 * k.setWidth 16 + (BitVec.ofBool b).setWidth 16) v = t ∧
      (∀ j, j < 16 → t.sam.getLsbD j = if j = k.toNat then b else s.sam.getLsbD j) ∧ t = { s with sam := t.sam }) ∧
    (∃ t, s.writeByte 0xFF94 v = t ∧ t.gime.timerValue.toNat = v.toNat % 16 * 256 + s.gime.timerValue.toNat % 256 ∧
      t = { s with gime := { s.gime with
        timerValue := t.gime.timerValue, timerCount := t.gime.timerValue.toNat + Config.timerOffset } }) ∧
    (∃ t, s.writeByte 0xFF95 v = t ∧ t.gime.timerValue.toNat = s.gime.timerValue.toNat / 256 * 256 + v.toNat ∧
      t = { s with gime := { s.gime with
        timerValue := t.gime.timerValue, timerCount := t.gime.timerValue.toNat + Config.timerOffset } }) ∧
    s.writeByte 0xFF90 v = { s with gime := { s.gime with init0 := v } } ∧
    s.writeByte 0xFF91 v = { s with gime := { s.gime with init1 := v } } ∧
    s.writeByte 0xFF92 v = { s with gime := { s.gime with irqenr := v } } ∧
    s.writeByte 0xFF93 v = { s with gime := { s.gime with firqenr := v } } ∧
    (∀ i : BitVec 3, ∃ t, s.writeByte (0xFF98 + i.setWidth 16) v = t ∧
      (∀ j : Fin 8, t.gime.video[j] = if j.val = i.toNat then v else s.gime.video[j]) ∧
      t = { s with gime := { s.gime with video := t.gime.video } }) ∧
    (∀ i : BitVec 4, ∃ t, s.writeByte (0xFFB0 + i.setWidth 16) v = t ∧
      (∀ j : Fin 16, t.gime.palette[j] = if j.val = i.toNat then v else s.gime.palette[j]) ∧
      t = { s with gime := { s.gime with palette := t.gime.palette } }) ∧
    (∀ a : Word, 0xFF00 ≤ a.toNat → a.toNat ≤ 0xFF1F →
      s.writeByte a v =
        if a.toNat % 4 = 0 then { s with pia := { s.pia with dataA := v } }
        else if a.toNat % 4 = 1 then { s with pia := { s.pia with ctrlA := v } }
        else if a.toNat % 4 = 2 then { s with pia := { s.pia with dataB := v } }
        else
          { s with
            pia := { s.pia with crb := v.extractLsb' 0 6 }
            lines := { s.lines with irq := { s.lines.irq with pia0Vsync := s.pia.vsyncFlag && v.getLsbD 0 } } }) ∧
    ∀ a : Word, (0xFF20 ≤ a.toNat ∧ a.toNat ≤ 0xFF8F) ∨ a = 0xFF96 ∨ a = 0xFF97 → s.writeByte a v = s

/-- O59. For every state and event (TMR, VBORD, HBORD, EI2, EI1, EI0): bit j of the IRQ latch is set after the event if
it was set, or j is the bit of the event, IRQENR bit j is 1 and the gate is open; the source bit likewise; the same
of FIRQ with FIRQENR. The gate is INIT0 bit 5 for IRQ and bit 4 for FIRQ where GIME_MASTER_GATE is true (its
default, log 9), and open where it is false. Nothing but the two latches and the two lines changes; with neither
enabled the state is unchanged. -/
def Obligations.GimeEventsLatchWhenEnabled : Prop :=
  ∀ (s : State) (k : GimeEv), let t := s.gimeEvent k
    let irqOn := s.gime.irqenr.getLsbD (gimeBit k) && (s.gime.init0.getLsbD 5 || !s.params.gimeMasterGate)
    let firqOn := s.gime.firqenr.getLsbD (gimeBit k) && (s.gime.init0.getLsbD 4 || !s.params.gimeMasterGate)
    (∀ j, j < 8 → t.gime.irqFlags.getLsbD j = (s.gime.irqFlags.getLsbD j || (decide (j = gimeBit k) && irqOn))) ∧
    (∀ j, j < 8 → t.gime.firqFlags.getLsbD j = (s.gime.firqFlags.getLsbD j || (decide (j = gimeBit k) && firqOn))) ∧
    t.lines.irq = (if irqOn then s.lines.irq.raise k else s.lines.irq) ∧
    t.lines.firq = (if firqOn then s.lines.firq.raise k else s.lines.firq) ∧
    t = { s with
      gime := { s.gime with irqFlags := t.gime.irqFlags, firqFlags := t.gime.firqFlags }
      lines := { s.lines with irq := t.lines.irq, firq := t.lines.firq } }

/-- O60. For every state. A timer decrement with timer value 0 changes nothing where TIMER_ZERO_STOPS is true (its
default, log 9); else with the counter above 1 it only counts down; else the counter is reloaded with value plus
TIMER_OFFSET, blink is inverted and the TMR event is raised. A master tick before the CPU: the counters advance; at
a line wrap the slow timer source (INIT1 bit 5 clear) decrements and then at scanline 13 the VBORD event is raised;
at the position of VSYNC the flag is set and, with CRB bit 0, the source; with INIT1 bit 5 set the timer decrements
at each multiple of 8 master cycles; then the peripherals act. Each environment input sets or clears its external
line bit, raises its GIME event, writes hwHalt, adds HOST_RESET, writes PC or stores one byte through the physical
entry, and nothing else; each act of a peripheral asserts EXT_NMI, writes hwHalt or stores a byte so. The batch at
the head of each queue is taken in order (log 10). The VSYNC position and the offset are OPEN (log 8); the statement
holds for every value. -/
def Obligations.TimerAndVsyncEvents : Prop :=
  ∀ s : State,
    (s.gime.timerValue = 0 → s.params.timerZeroStops = true → s.timerDecrement = s) ∧
    (s.gime.timerValue ≠ 0 ∨ s.params.timerZeroStops = false → 1 < s.gime.timerCount →
      s.timerDecrement = { s with gime := { s.gime with timerCount := s.gime.timerCount - 1 } }) ∧
    (s.gime.timerValue ≠ 0 ∨ s.params.timerZeroStops = false → s.gime.timerCount ≤ 1 →
      s.timerDecrement =
        ({ s with gime := { s.gime with
            timerCount := s.gime.timerValue.toNat + Config.timerOffset, blink := !s.gime.blink } }).gimeEvent .tmr) ∧
    (∃ c w v f : State,
      c = { s with seq := nextCounters s.seq } ∧
      (s.seq.dot ≠ 1819 → w = c) ∧
      (s.seq.dot = 1819 → ∃ u, u = (if s.gime.init1.getLsbD 5 then c else c.timerDecrement) ∧
        w = if c.seq.scanline = 13 then u.gimeEvent .vbord else u) ∧
      v = (if c.seq.dot = Config.vsyncDot.val ∧ c.seq.scanline = Config.vsyncLine.val then
          { w with
            pia := { w.pia with vsyncFlag := true }
            lines :=
              { w.lines with
                irq := { w.lines.irq with pia0Vsync := w.lines.irq.pia0Vsync || w.pia.crb.getLsbD 0 } } }
        else w) ∧
      f = (if s.gime.init1.getLsbD 5 ∧ c.seq.masterCycle % 8 = 0 then v.timerDecrement else v) ∧
      s.sequence = (match f.periph with
        | [] => f
        | batch :: rest => batch.foldl State.periphAct { f with periph := rest })) ∧
    (s.applyEnv = match s.env with
      | [] => s
      | batch :: rest => batch.foldl State.envInput { s with env := rest }) ∧
    (∀ (b : Bool) (k : EnvGime) (a : Word) (p : Nat) (x : Byte),
      let stored := { s with ram := ramWrite s.ram (p % 2 ^ s.params.ramBits) x }
      s.envInput (.line .irq b) = { s with lines := { s.lines with irq := { s.lines.irq with ext := b } } } ∧
      s.envInput (.line .firq b) = { s with lines := { s.lines with firq := { s.lines.firq with ext := b } } } ∧
      s.envInput (.line .nmi b) = { s with lines := { s.lines with nmiExt := b } } ∧
      s.envInput (.gime k) = s.gimeEvent (.env k) ∧
      s.envInput (.hwHalt b) = { s with hwHalt := b } ∧
      s.envInput .hostReset = { s with lines := { s.lines with resetHost := true } } ∧
      s.envInput (.forcePC a) = { s with regs := { s.regs with pc := a } } ∧
      s.envInput (.loadByte p x) = stored ∧
      s.periphAct .assertNmi = { s with lines := { s.lines with nmiExt := true } } ∧
      s.periphAct (.hwHalt b) = { s with hwHalt := b } ∧
      s.periphAct (.physWrite p x) = stored)
end

