-- ==== Sys2Proof/Laws/State.lean ====
section
/-! SUPPORT. The small lemmas of State: what each named update leaves in each field. All hold by definition. -/

namespace Sys2Proof.Machine

@[simp] theorem State.setRegs_regs (s : State) (r : Regs) : (s.setRegs r).regs = r := rfl
@[simp] theorem State.setRegs_pending (s : State) (r : Regs) : (s.setRegs r).pending = s.pending := rfl
@[simp] theorem State.setRegs_cyc (s : State) (r : Regs) : (s.setRegs r).cyc = s.cyc := rfl
@[simp] theorem State.setRegs_halt (s : State) (r : Regs) : (s.setRegs r).halt = s.halt := rfl
@[simp] theorem State.setRegs_hwHalt (s : State) (r : Regs) : (s.setRegs r).hwHalt = s.hwHalt := rfl
@[simp] theorem State.setRegs_lines (s : State) (r : Regs) : (s.setRegs r).lines = s.lines := rfl
@[simp] theorem State.setRegs_ram (s : State) (r : Regs) : (s.setRegs r).ram = s.ram := rfl
@[simp] theorem State.setRegs_gime (s : State) (r : Regs) : (s.setRegs r).gime = s.gime := rfl
@[simp] theorem State.setRegs_sam (s : State) (r : Regs) : (s.setRegs r).sam = s.sam := rfl
@[simp] theorem State.setRegs_pia (s : State) (r : Regs) : (s.setRegs r).pia = s.pia := rfl
@[simp] theorem State.setRegs_seq (s : State) (r : Regs) : (s.setRegs r).seq = s.seq := rfl
@[simp] theorem State.setRegs_platform (s : State) (r : Regs) : (s.setRegs r).platform = s.platform := rfl
@[simp] theorem State.setRegs_params (s : State) (r : Regs) : (s.setRegs r).params = s.params := rfl
@[simp] theorem State.setRegs_env (s : State) (r : Regs) : (s.setRegs r).env = s.env := rfl
@[simp] theorem State.setRegs_periph (s : State) (r : Regs) : (s.setRegs r).periph = s.periph := rfl
@[simp] theorem State.setRegs_draws (s : State) (r : Regs) : (s.setRegs r).draws = s.draws := rfl

@[simp] theorem State.setCC_regs (s : State) (v : Byte) : (s.setCC v).regs = { s.regs with cc := v } := rfl
@[simp] theorem State.setCC_pending (s : State) (v : Byte) : (s.setCC v).pending = s.pending := rfl
@[simp] theorem State.setCC_cyc (s : State) (v : Byte) : (s.setCC v).cyc = s.cyc := rfl
@[simp] theorem State.setCC_halt (s : State) (v : Byte) : (s.setCC v).halt = s.halt := rfl
@[simp] theorem State.setCC_hwHalt (s : State) (v : Byte) : (s.setCC v).hwHalt = s.hwHalt := rfl
@[simp] theorem State.setCC_lines (s : State) (v : Byte) : (s.setCC v).lines = s.lines := rfl
@[simp] theorem State.setCC_ram (s : State) (v : Byte) : (s.setCC v).ram = s.ram := rfl
@[simp] theorem State.setCC_gime (s : State) (v : Byte) : (s.setCC v).gime = s.gime := rfl
@[simp] theorem State.setCC_sam (s : State) (v : Byte) : (s.setCC v).sam = s.sam := rfl
@[simp] theorem State.setCC_pia (s : State) (v : Byte) : (s.setCC v).pia = s.pia := rfl
@[simp] theorem State.setCC_seq (s : State) (v : Byte) : (s.setCC v).seq = s.seq := rfl
@[simp] theorem State.setCC_platform (s : State) (v : Byte) : (s.setCC v).platform = s.platform := rfl
@[simp] theorem State.setCC_params (s : State) (v : Byte) : (s.setCC v).params = s.params := rfl
@[simp] theorem State.setCC_env (s : State) (v : Byte) : (s.setCC v).env = s.env := rfl
@[simp] theorem State.setCC_periph (s : State) (v : Byte) : (s.setCC v).periph = s.periph := rfl
@[simp] theorem State.setCC_draws (s : State) (v : Byte) : (s.setCC v).draws = s.draws := rfl

@[simp] theorem State.setA_regs (s : State) (v : Byte) : (s.setA v).regs = { s.regs with a := v } := rfl
@[simp] theorem State.setA_pending (s : State) (v : Byte) : (s.setA v).pending = s.pending := rfl
@[simp] theorem State.setA_cyc (s : State) (v : Byte) : (s.setA v).cyc = s.cyc := rfl
@[simp] theorem State.setA_halt (s : State) (v : Byte) : (s.setA v).halt = s.halt := rfl
@[simp] theorem State.setA_hwHalt (s : State) (v : Byte) : (s.setA v).hwHalt = s.hwHalt := rfl
@[simp] theorem State.setA_lines (s : State) (v : Byte) : (s.setA v).lines = s.lines := rfl
@[simp] theorem State.setA_ram (s : State) (v : Byte) : (s.setA v).ram = s.ram := rfl
@[simp] theorem State.setA_gime (s : State) (v : Byte) : (s.setA v).gime = s.gime := rfl
@[simp] theorem State.setA_sam (s : State) (v : Byte) : (s.setA v).sam = s.sam := rfl
@[simp] theorem State.setA_pia (s : State) (v : Byte) : (s.setA v).pia = s.pia := rfl
@[simp] theorem State.setA_seq (s : State) (v : Byte) : (s.setA v).seq = s.seq := rfl
@[simp] theorem State.setA_platform (s : State) (v : Byte) : (s.setA v).platform = s.platform := rfl
@[simp] theorem State.setA_params (s : State) (v : Byte) : (s.setA v).params = s.params := rfl
@[simp] theorem State.setA_env (s : State) (v : Byte) : (s.setA v).env = s.env := rfl
@[simp] theorem State.setA_periph (s : State) (v : Byte) : (s.setA v).periph = s.periph := rfl
@[simp] theorem State.setA_draws (s : State) (v : Byte) : (s.setA v).draws = s.draws := rfl

@[simp] theorem State.setB_regs (s : State) (v : Byte) : (s.setB v).regs = { s.regs with b := v } := rfl
@[simp] theorem State.setB_pending (s : State) (v : Byte) : (s.setB v).pending = s.pending := rfl
@[simp] theorem State.setB_cyc (s : State) (v : Byte) : (s.setB v).cyc = s.cyc := rfl
@[simp] theorem State.setB_halt (s : State) (v : Byte) : (s.setB v).halt = s.halt := rfl
@[simp] theorem State.setB_hwHalt (s : State) (v : Byte) : (s.setB v).hwHalt = s.hwHalt := rfl
@[simp] theorem State.setB_lines (s : State) (v : Byte) : (s.setB v).lines = s.lines := rfl
@[simp] theorem State.setB_ram (s : State) (v : Byte) : (s.setB v).ram = s.ram := rfl
@[simp] theorem State.setB_gime (s : State) (v : Byte) : (s.setB v).gime = s.gime := rfl
@[simp] theorem State.setB_sam (s : State) (v : Byte) : (s.setB v).sam = s.sam := rfl
@[simp] theorem State.setB_pia (s : State) (v : Byte) : (s.setB v).pia = s.pia := rfl
@[simp] theorem State.setB_seq (s : State) (v : Byte) : (s.setB v).seq = s.seq := rfl
@[simp] theorem State.setB_platform (s : State) (v : Byte) : (s.setB v).platform = s.platform := rfl
@[simp] theorem State.setB_params (s : State) (v : Byte) : (s.setB v).params = s.params := rfl
@[simp] theorem State.setB_env (s : State) (v : Byte) : (s.setB v).env = s.env := rfl
@[simp] theorem State.setB_periph (s : State) (v : Byte) : (s.setB v).periph = s.periph := rfl
@[simp] theorem State.setB_draws (s : State) (v : Byte) : (s.setB v).draws = s.draws := rfl

@[simp] theorem State.setDP_regs (s : State) (v : Byte) : (s.setDP v).regs = { s.regs with dp := v } := rfl
@[simp] theorem State.setDP_pending (s : State) (v : Byte) : (s.setDP v).pending = s.pending := rfl
@[simp] theorem State.setDP_cyc (s : State) (v : Byte) : (s.setDP v).cyc = s.cyc := rfl
@[simp] theorem State.setDP_halt (s : State) (v : Byte) : (s.setDP v).halt = s.halt := rfl
@[simp] theorem State.setDP_hwHalt (s : State) (v : Byte) : (s.setDP v).hwHalt = s.hwHalt := rfl
@[simp] theorem State.setDP_lines (s : State) (v : Byte) : (s.setDP v).lines = s.lines := rfl
@[simp] theorem State.setDP_ram (s : State) (v : Byte) : (s.setDP v).ram = s.ram := rfl
@[simp] theorem State.setDP_gime (s : State) (v : Byte) : (s.setDP v).gime = s.gime := rfl
@[simp] theorem State.setDP_sam (s : State) (v : Byte) : (s.setDP v).sam = s.sam := rfl
@[simp] theorem State.setDP_pia (s : State) (v : Byte) : (s.setDP v).pia = s.pia := rfl
@[simp] theorem State.setDP_seq (s : State) (v : Byte) : (s.setDP v).seq = s.seq := rfl
@[simp] theorem State.setDP_platform (s : State) (v : Byte) : (s.setDP v).platform = s.platform := rfl
@[simp] theorem State.setDP_params (s : State) (v : Byte) : (s.setDP v).params = s.params := rfl
@[simp] theorem State.setDP_env (s : State) (v : Byte) : (s.setDP v).env = s.env := rfl
@[simp] theorem State.setDP_periph (s : State) (v : Byte) : (s.setDP v).periph = s.periph := rfl
@[simp] theorem State.setDP_draws (s : State) (v : Byte) : (s.setDP v).draws = s.draws := rfl

@[simp] theorem State.setX_regs (s : State) (v : Word) : (s.setX v).regs = { s.regs with x := v } := rfl
@[simp] theorem State.setX_pending (s : State) (v : Word) : (s.setX v).pending = s.pending := rfl
@[simp] theorem State.setX_cyc (s : State) (v : Word) : (s.setX v).cyc = s.cyc := rfl
@[simp] theorem State.setX_halt (s : State) (v : Word) : (s.setX v).halt = s.halt := rfl
@[simp] theorem State.setX_hwHalt (s : State) (v : Word) : (s.setX v).hwHalt = s.hwHalt := rfl
@[simp] theorem State.setX_lines (s : State) (v : Word) : (s.setX v).lines = s.lines := rfl
@[simp] theorem State.setX_ram (s : State) (v : Word) : (s.setX v).ram = s.ram := rfl
@[simp] theorem State.setX_gime (s : State) (v : Word) : (s.setX v).gime = s.gime := rfl
@[simp] theorem State.setX_sam (s : State) (v : Word) : (s.setX v).sam = s.sam := rfl
@[simp] theorem State.setX_pia (s : State) (v : Word) : (s.setX v).pia = s.pia := rfl
@[simp] theorem State.setX_seq (s : State) (v : Word) : (s.setX v).seq = s.seq := rfl
@[simp] theorem State.setX_platform (s : State) (v : Word) : (s.setX v).platform = s.platform := rfl
@[simp] theorem State.setX_params (s : State) (v : Word) : (s.setX v).params = s.params := rfl
@[simp] theorem State.setX_env (s : State) (v : Word) : (s.setX v).env = s.env := rfl
@[simp] theorem State.setX_periph (s : State) (v : Word) : (s.setX v).periph = s.periph := rfl
@[simp] theorem State.setX_draws (s : State) (v : Word) : (s.setX v).draws = s.draws := rfl

@[simp] theorem State.setY_regs (s : State) (v : Word) : (s.setY v).regs = { s.regs with y := v } := rfl
@[simp] theorem State.setY_pending (s : State) (v : Word) : (s.setY v).pending = s.pending := rfl
@[simp] theorem State.setY_cyc (s : State) (v : Word) : (s.setY v).cyc = s.cyc := rfl
@[simp] theorem State.setY_halt (s : State) (v : Word) : (s.setY v).halt = s.halt := rfl
@[simp] theorem State.setY_hwHalt (s : State) (v : Word) : (s.setY v).hwHalt = s.hwHalt := rfl
@[simp] theorem State.setY_lines (s : State) (v : Word) : (s.setY v).lines = s.lines := rfl
@[simp] theorem State.setY_ram (s : State) (v : Word) : (s.setY v).ram = s.ram := rfl
@[simp] theorem State.setY_gime (s : State) (v : Word) : (s.setY v).gime = s.gime := rfl
@[simp] theorem State.setY_sam (s : State) (v : Word) : (s.setY v).sam = s.sam := rfl
@[simp] theorem State.setY_pia (s : State) (v : Word) : (s.setY v).pia = s.pia := rfl
@[simp] theorem State.setY_seq (s : State) (v : Word) : (s.setY v).seq = s.seq := rfl
@[simp] theorem State.setY_platform (s : State) (v : Word) : (s.setY v).platform = s.platform := rfl
@[simp] theorem State.setY_params (s : State) (v : Word) : (s.setY v).params = s.params := rfl
@[simp] theorem State.setY_env (s : State) (v : Word) : (s.setY v).env = s.env := rfl
@[simp] theorem State.setY_periph (s : State) (v : Word) : (s.setY v).periph = s.periph := rfl
@[simp] theorem State.setY_draws (s : State) (v : Word) : (s.setY v).draws = s.draws := rfl

@[simp] theorem State.setU_regs (s : State) (v : Word) : (s.setU v).regs = { s.regs with u := v } := rfl
@[simp] theorem State.setU_pending (s : State) (v : Word) : (s.setU v).pending = s.pending := rfl
@[simp] theorem State.setU_cyc (s : State) (v : Word) : (s.setU v).cyc = s.cyc := rfl
@[simp] theorem State.setU_halt (s : State) (v : Word) : (s.setU v).halt = s.halt := rfl
@[simp] theorem State.setU_hwHalt (s : State) (v : Word) : (s.setU v).hwHalt = s.hwHalt := rfl
@[simp] theorem State.setU_lines (s : State) (v : Word) : (s.setU v).lines = s.lines := rfl
@[simp] theorem State.setU_ram (s : State) (v : Word) : (s.setU v).ram = s.ram := rfl
@[simp] theorem State.setU_gime (s : State) (v : Word) : (s.setU v).gime = s.gime := rfl
@[simp] theorem State.setU_sam (s : State) (v : Word) : (s.setU v).sam = s.sam := rfl
@[simp] theorem State.setU_pia (s : State) (v : Word) : (s.setU v).pia = s.pia := rfl
@[simp] theorem State.setU_seq (s : State) (v : Word) : (s.setU v).seq = s.seq := rfl
@[simp] theorem State.setU_platform (s : State) (v : Word) : (s.setU v).platform = s.platform := rfl
@[simp] theorem State.setU_params (s : State) (v : Word) : (s.setU v).params = s.params := rfl
@[simp] theorem State.setU_env (s : State) (v : Word) : (s.setU v).env = s.env := rfl
@[simp] theorem State.setU_periph (s : State) (v : Word) : (s.setU v).periph = s.periph := rfl
@[simp] theorem State.setU_draws (s : State) (v : Word) : (s.setU v).draws = s.draws := rfl

@[simp] theorem State.setS_regs (s : State) (v : Word) : (s.setS v).regs = { s.regs with s := v } := rfl
@[simp] theorem State.setS_pending (s : State) (v : Word) : (s.setS v).pending = s.pending := rfl
@[simp] theorem State.setS_cyc (s : State) (v : Word) : (s.setS v).cyc = s.cyc := rfl
@[simp] theorem State.setS_halt (s : State) (v : Word) : (s.setS v).halt = s.halt := rfl
@[simp] theorem State.setS_hwHalt (s : State) (v : Word) : (s.setS v).hwHalt = s.hwHalt := rfl
@[simp] theorem State.setS_lines (s : State) (v : Word) : (s.setS v).lines = s.lines := rfl
@[simp] theorem State.setS_ram (s : State) (v : Word) : (s.setS v).ram = s.ram := rfl
@[simp] theorem State.setS_gime (s : State) (v : Word) : (s.setS v).gime = s.gime := rfl
@[simp] theorem State.setS_sam (s : State) (v : Word) : (s.setS v).sam = s.sam := rfl
@[simp] theorem State.setS_pia (s : State) (v : Word) : (s.setS v).pia = s.pia := rfl
@[simp] theorem State.setS_seq (s : State) (v : Word) : (s.setS v).seq = s.seq := rfl
@[simp] theorem State.setS_platform (s : State) (v : Word) : (s.setS v).platform = s.platform := rfl
@[simp] theorem State.setS_params (s : State) (v : Word) : (s.setS v).params = s.params := rfl
@[simp] theorem State.setS_env (s : State) (v : Word) : (s.setS v).env = s.env := rfl
@[simp] theorem State.setS_periph (s : State) (v : Word) : (s.setS v).periph = s.periph := rfl
@[simp] theorem State.setS_draws (s : State) (v : Word) : (s.setS v).draws = s.draws := rfl

@[simp] theorem State.setPC_regs (s : State) (v : Word) : (s.setPC v).regs = { s.regs with pc := v } := rfl
@[simp] theorem State.setPC_pending (s : State) (v : Word) : (s.setPC v).pending = s.pending := rfl
@[simp] theorem State.setPC_cyc (s : State) (v : Word) : (s.setPC v).cyc = s.cyc := rfl
@[simp] theorem State.setPC_halt (s : State) (v : Word) : (s.setPC v).halt = s.halt := rfl
@[simp] theorem State.setPC_hwHalt (s : State) (v : Word) : (s.setPC v).hwHalt = s.hwHalt := rfl
@[simp] theorem State.setPC_lines (s : State) (v : Word) : (s.setPC v).lines = s.lines := rfl
@[simp] theorem State.setPC_ram (s : State) (v : Word) : (s.setPC v).ram = s.ram := rfl
@[simp] theorem State.setPC_gime (s : State) (v : Word) : (s.setPC v).gime = s.gime := rfl
@[simp] theorem State.setPC_sam (s : State) (v : Word) : (s.setPC v).sam = s.sam := rfl
@[simp] theorem State.setPC_pia (s : State) (v : Word) : (s.setPC v).pia = s.pia := rfl
@[simp] theorem State.setPC_seq (s : State) (v : Word) : (s.setPC v).seq = s.seq := rfl
@[simp] theorem State.setPC_platform (s : State) (v : Word) : (s.setPC v).platform = s.platform := rfl
@[simp] theorem State.setPC_params (s : State) (v : Word) : (s.setPC v).params = s.params := rfl
@[simp] theorem State.setPC_env (s : State) (v : Word) : (s.setPC v).env = s.env := rfl
@[simp] theorem State.setPC_periph (s : State) (v : Word) : (s.setPC v).periph = s.periph := rfl
@[simp] theorem State.setPC_draws (s : State) (v : Word) : (s.setPC v).draws = s.draws := rfl

@[simp] theorem State.setD_regs (s : State) (v : Word) : (s.setD v).regs = { s.regs with a := hiByte v, b := loByte v } := rfl
@[simp] theorem State.setD_pending (s : State) (v : Word) : (s.setD v).pending = s.pending := rfl
@[simp] theorem State.setD_cyc (s : State) (v : Word) : (s.setD v).cyc = s.cyc := rfl
@[simp] theorem State.setD_halt (s : State) (v : Word) : (s.setD v).halt = s.halt := rfl
@[simp] theorem State.setD_hwHalt (s : State) (v : Word) : (s.setD v).hwHalt = s.hwHalt := rfl
@[simp] theorem State.setD_lines (s : State) (v : Word) : (s.setD v).lines = s.lines := rfl
@[simp] theorem State.setD_ram (s : State) (v : Word) : (s.setD v).ram = s.ram := rfl
@[simp] theorem State.setD_gime (s : State) (v : Word) : (s.setD v).gime = s.gime := rfl
@[simp] theorem State.setD_sam (s : State) (v : Word) : (s.setD v).sam = s.sam := rfl
@[simp] theorem State.setD_pia (s : State) (v : Word) : (s.setD v).pia = s.pia := rfl
@[simp] theorem State.setD_seq (s : State) (v : Word) : (s.setD v).seq = s.seq := rfl
@[simp] theorem State.setD_platform (s : State) (v : Word) : (s.setD v).platform = s.platform := rfl
@[simp] theorem State.setD_params (s : State) (v : Word) : (s.setD v).params = s.params := rfl
@[simp] theorem State.setD_env (s : State) (v : Word) : (s.setD v).env = s.env := rfl
@[simp] theorem State.setD_periph (s : State) (v : Word) : (s.setD v).periph = s.periph := rfl
@[simp] theorem State.setD_draws (s : State) (v : Word) : (s.setD v).draws = s.draws := rfl

@[simp] theorem State.setFlag_regs (s : State) (k : Flag) (b : Bool) : (s.setFlag k b).regs = { s.regs with cc := ccPut s.regs.cc k b } := rfl
@[simp] theorem State.setFlag_pending (s : State) (k : Flag) (b : Bool) : (s.setFlag k b).pending = s.pending := rfl
@[simp] theorem State.setFlag_cyc (s : State) (k : Flag) (b : Bool) : (s.setFlag k b).cyc = s.cyc := rfl
@[simp] theorem State.setFlag_halt (s : State) (k : Flag) (b : Bool) : (s.setFlag k b).halt = s.halt := rfl
@[simp] theorem State.setFlag_hwHalt (s : State) (k : Flag) (b : Bool) : (s.setFlag k b).hwHalt = s.hwHalt := rfl
@[simp] theorem State.setFlag_lines (s : State) (k : Flag) (b : Bool) : (s.setFlag k b).lines = s.lines := rfl
@[simp] theorem State.setFlag_ram (s : State) (k : Flag) (b : Bool) : (s.setFlag k b).ram = s.ram := rfl
@[simp] theorem State.setFlag_gime (s : State) (k : Flag) (b : Bool) : (s.setFlag k b).gime = s.gime := rfl
@[simp] theorem State.setFlag_sam (s : State) (k : Flag) (b : Bool) : (s.setFlag k b).sam = s.sam := rfl
@[simp] theorem State.setFlag_pia (s : State) (k : Flag) (b : Bool) : (s.setFlag k b).pia = s.pia := rfl
@[simp] theorem State.setFlag_seq (s : State) (k : Flag) (b : Bool) : (s.setFlag k b).seq = s.seq := rfl
@[simp] theorem State.setFlag_platform (s : State) (k : Flag) (b : Bool) : (s.setFlag k b).platform = s.platform := rfl
@[simp] theorem State.setFlag_params (s : State) (k : Flag) (b : Bool) : (s.setFlag k b).params = s.params := rfl
@[simp] theorem State.setFlag_env (s : State) (k : Flag) (b : Bool) : (s.setFlag k b).env = s.env := rfl
@[simp] theorem State.setFlag_periph (s : State) (k : Flag) (b : Bool) : (s.setFlag k b).periph = s.periph := rfl
@[simp] theorem State.setFlag_draws (s : State) (k : Flag) (b : Bool) : (s.setFlag k b).draws = s.draws := rfl

@[simp] theorem State.putFlags_regs (s : State) (fl : FlagWrites) : (s.putFlags fl).regs = { s.regs with cc := applyFlags fl s.regs.cc } := rfl
@[simp] theorem State.putFlags_pending (s : State) (fl : FlagWrites) : (s.putFlags fl).pending = s.pending := rfl
@[simp] theorem State.putFlags_cyc (s : State) (fl : FlagWrites) : (s.putFlags fl).cyc = s.cyc := rfl
@[simp] theorem State.putFlags_halt (s : State) (fl : FlagWrites) : (s.putFlags fl).halt = s.halt := rfl
@[simp] theorem State.putFlags_hwHalt (s : State) (fl : FlagWrites) : (s.putFlags fl).hwHalt = s.hwHalt := rfl
@[simp] theorem State.putFlags_lines (s : State) (fl : FlagWrites) : (s.putFlags fl).lines = s.lines := rfl
@[simp] theorem State.putFlags_ram (s : State) (fl : FlagWrites) : (s.putFlags fl).ram = s.ram := rfl
@[simp] theorem State.putFlags_gime (s : State) (fl : FlagWrites) : (s.putFlags fl).gime = s.gime := rfl
@[simp] theorem State.putFlags_sam (s : State) (fl : FlagWrites) : (s.putFlags fl).sam = s.sam := rfl
@[simp] theorem State.putFlags_pia (s : State) (fl : FlagWrites) : (s.putFlags fl).pia = s.pia := rfl
@[simp] theorem State.putFlags_seq (s : State) (fl : FlagWrites) : (s.putFlags fl).seq = s.seq := rfl
@[simp] theorem State.putFlags_platform (s : State) (fl : FlagWrites) : (s.putFlags fl).platform = s.platform := rfl
@[simp] theorem State.putFlags_params (s : State) (fl : FlagWrites) : (s.putFlags fl).params = s.params := rfl
@[simp] theorem State.putFlags_env (s : State) (fl : FlagWrites) : (s.putFlags fl).env = s.env := rfl
@[simp] theorem State.putFlags_periph (s : State) (fl : FlagWrites) : (s.putFlags fl).periph = s.periph := rfl
@[simp] theorem State.putFlags_draws (s : State) (fl : FlagWrites) : (s.putFlags fl).draws = s.draws := rfl

@[simp] theorem State.addCyc_regs (s : State) (n : Nat) : (s.addCyc n).regs = s.regs := rfl
@[simp] theorem State.addCyc_pending (s : State) (n : Nat) : (s.addCyc n).pending = s.pending := rfl
@[simp] theorem State.addCyc_cyc (s : State) (n : Nat) : (s.addCyc n).cyc = s.cyc + n := rfl
@[simp] theorem State.addCyc_halt (s : State) (n : Nat) : (s.addCyc n).halt = s.halt := rfl
@[simp] theorem State.addCyc_hwHalt (s : State) (n : Nat) : (s.addCyc n).hwHalt = s.hwHalt := rfl
@[simp] theorem State.addCyc_lines (s : State) (n : Nat) : (s.addCyc n).lines = s.lines := rfl
@[simp] theorem State.addCyc_ram (s : State) (n : Nat) : (s.addCyc n).ram = s.ram := rfl
@[simp] theorem State.addCyc_gime (s : State) (n : Nat) : (s.addCyc n).gime = s.gime := rfl
@[simp] theorem State.addCyc_sam (s : State) (n : Nat) : (s.addCyc n).sam = s.sam := rfl
@[simp] theorem State.addCyc_pia (s : State) (n : Nat) : (s.addCyc n).pia = s.pia := rfl
@[simp] theorem State.addCyc_seq (s : State) (n : Nat) : (s.addCyc n).seq = s.seq := rfl
@[simp] theorem State.addCyc_platform (s : State) (n : Nat) : (s.addCyc n).platform = s.platform := rfl
@[simp] theorem State.addCyc_params (s : State) (n : Nat) : (s.addCyc n).params = s.params := rfl
@[simp] theorem State.addCyc_env (s : State) (n : Nat) : (s.addCyc n).env = s.env := rfl
@[simp] theorem State.addCyc_periph (s : State) (n : Nat) : (s.addCyc n).periph = s.periph := rfl
@[simp] theorem State.addCyc_draws (s : State) (n : Nat) : (s.addCyc n).draws = s.draws := rfl

@[simp] theorem State.setHalt_regs (s : State) (h : Halt) : (s.setHalt h).regs = s.regs := rfl
@[simp] theorem State.setHalt_pending (s : State) (h : Halt) : (s.setHalt h).pending = s.pending := rfl
@[simp] theorem State.setHalt_cyc (s : State) (h : Halt) : (s.setHalt h).cyc = s.cyc := rfl
@[simp] theorem State.setHalt_halt (s : State) (h : Halt) : (s.setHalt h).halt = h := rfl
@[simp] theorem State.setHalt_hwHalt (s : State) (h : Halt) : (s.setHalt h).hwHalt = s.hwHalt := rfl
@[simp] theorem State.setHalt_lines (s : State) (h : Halt) : (s.setHalt h).lines = s.lines := rfl
@[simp] theorem State.setHalt_ram (s : State) (h : Halt) : (s.setHalt h).ram = s.ram := rfl
@[simp] theorem State.setHalt_gime (s : State) (h : Halt) : (s.setHalt h).gime = s.gime := rfl
@[simp] theorem State.setHalt_sam (s : State) (h : Halt) : (s.setHalt h).sam = s.sam := rfl
@[simp] theorem State.setHalt_pia (s : State) (h : Halt) : (s.setHalt h).pia = s.pia := rfl
@[simp] theorem State.setHalt_seq (s : State) (h : Halt) : (s.setHalt h).seq = s.seq := rfl
@[simp] theorem State.setHalt_platform (s : State) (h : Halt) : (s.setHalt h).platform = s.platform := rfl
@[simp] theorem State.setHalt_params (s : State) (h : Halt) : (s.setHalt h).params = s.params := rfl
@[simp] theorem State.setHalt_env (s : State) (h : Halt) : (s.setHalt h).env = s.env := rfl
@[simp] theorem State.setHalt_periph (s : State) (h : Halt) : (s.setHalt h).periph = s.periph := rfl
@[simp] theorem State.setHalt_draws (s : State) (h : Halt) : (s.setHalt h).draws = s.draws := rfl

@[simp] theorem State.countDraw_regs (s : State) : (s.countDraw).regs = s.regs := rfl
@[simp] theorem State.countDraw_pending (s : State) : (s.countDraw).pending = s.pending := rfl
@[simp] theorem State.countDraw_cyc (s : State) : (s.countDraw).cyc = s.cyc := rfl
@[simp] theorem State.countDraw_halt (s : State) : (s.countDraw).halt = s.halt := rfl
@[simp] theorem State.countDraw_hwHalt (s : State) : (s.countDraw).hwHalt = s.hwHalt := rfl
@[simp] theorem State.countDraw_lines (s : State) : (s.countDraw).lines = s.lines := rfl
@[simp] theorem State.countDraw_ram (s : State) : (s.countDraw).ram = s.ram := rfl
@[simp] theorem State.countDraw_gime (s : State) : (s.countDraw).gime = s.gime := rfl
@[simp] theorem State.countDraw_sam (s : State) : (s.countDraw).sam = s.sam := rfl
@[simp] theorem State.countDraw_pia (s : State) : (s.countDraw).pia = s.pia := rfl
@[simp] theorem State.countDraw_seq (s : State) : (s.countDraw).seq = s.seq := rfl
@[simp] theorem State.countDraw_platform (s : State) : (s.countDraw).platform = s.platform := rfl
@[simp] theorem State.countDraw_params (s : State) : (s.countDraw).params = s.params := rfl
@[simp] theorem State.countDraw_env (s : State) : (s.countDraw).env = s.env := rfl
@[simp] theorem State.countDraw_periph (s : State) : (s.countDraw).periph = s.periph := rfl
@[simp] theorem State.countDraw_draws (s : State) : (s.countDraw).draws = s.draws + 1 := rfl

@[simp] theorem State.ackVsync_regs (s : State) : (s.ackVsync).regs = s.regs := rfl
@[simp] theorem State.ackVsync_pending (s : State) : (s.ackVsync).pending = s.pending := rfl
@[simp] theorem State.ackVsync_cyc (s : State) : (s.ackVsync).cyc = s.cyc := rfl
@[simp] theorem State.ackVsync_halt (s : State) : (s.ackVsync).halt = s.halt := rfl
@[simp] theorem State.ackVsync_hwHalt (s : State) : (s.ackVsync).hwHalt = s.hwHalt := rfl
@[simp] theorem State.ackVsync_ram (s : State) : (s.ackVsync).ram = s.ram := rfl
@[simp] theorem State.ackVsync_gime (s : State) : (s.ackVsync).gime = s.gime := rfl
@[simp] theorem State.ackVsync_sam (s : State) : (s.ackVsync).sam = s.sam := rfl
@[simp] theorem State.ackVsync_seq (s : State) : (s.ackVsync).seq = s.seq := rfl
@[simp] theorem State.ackVsync_platform (s : State) : (s.ackVsync).platform = s.platform := rfl
@[simp] theorem State.ackVsync_params (s : State) : (s.ackVsync).params = s.params := rfl
@[simp] theorem State.ackVsync_env (s : State) : (s.ackVsync).env = s.env := rfl
@[simp] theorem State.ackVsync_periph (s : State) : (s.ackVsync).periph = s.periph := rfl
@[simp] theorem State.ackVsync_draws (s : State) : (s.ackVsync).draws = s.draws := rfl

@[simp] theorem State.ackGimeIrq_regs (s : State) : (s.ackGimeIrq).regs = s.regs := rfl
@[simp] theorem State.ackGimeIrq_pending (s : State) : (s.ackGimeIrq).pending = s.pending := rfl
@[simp] theorem State.ackGimeIrq_cyc (s : State) : (s.ackGimeIrq).cyc = s.cyc := rfl
@[simp] theorem State.ackGimeIrq_halt (s : State) : (s.ackGimeIrq).halt = s.halt := rfl
@[simp] theorem State.ackGimeIrq_hwHalt (s : State) : (s.ackGimeIrq).hwHalt = s.hwHalt := rfl
@[simp] theorem State.ackGimeIrq_ram (s : State) : (s.ackGimeIrq).ram = s.ram := rfl
@[simp] theorem State.ackGimeIrq_sam (s : State) : (s.ackGimeIrq).sam = s.sam := rfl
@[simp] theorem State.ackGimeIrq_pia (s : State) : (s.ackGimeIrq).pia = s.pia := rfl
@[simp] theorem State.ackGimeIrq_seq (s : State) : (s.ackGimeIrq).seq = s.seq := rfl
@[simp] theorem State.ackGimeIrq_platform (s : State) : (s.ackGimeIrq).platform = s.platform := rfl
@[simp] theorem State.ackGimeIrq_params (s : State) : (s.ackGimeIrq).params = s.params := rfl
@[simp] theorem State.ackGimeIrq_env (s : State) : (s.ackGimeIrq).env = s.env := rfl
@[simp] theorem State.ackGimeIrq_periph (s : State) : (s.ackGimeIrq).periph = s.periph := rfl
@[simp] theorem State.ackGimeIrq_draws (s : State) : (s.ackGimeIrq).draws = s.draws := rfl

@[simp] theorem State.ackGimeFirq_regs (s : State) : (s.ackGimeFirq).regs = s.regs := rfl
@[simp] theorem State.ackGimeFirq_pending (s : State) : (s.ackGimeFirq).pending = s.pending := rfl
@[simp] theorem State.ackGimeFirq_cyc (s : State) : (s.ackGimeFirq).cyc = s.cyc := rfl
@[simp] theorem State.ackGimeFirq_halt (s : State) : (s.ackGimeFirq).halt = s.halt := rfl
@[simp] theorem State.ackGimeFirq_hwHalt (s : State) : (s.ackGimeFirq).hwHalt = s.hwHalt := rfl
@[simp] theorem State.ackGimeFirq_ram (s : State) : (s.ackGimeFirq).ram = s.ram := rfl
@[simp] theorem State.ackGimeFirq_sam (s : State) : (s.ackGimeFirq).sam = s.sam := rfl
@[simp] theorem State.ackGimeFirq_pia (s : State) : (s.ackGimeFirq).pia = s.pia := rfl
@[simp] theorem State.ackGimeFirq_seq (s : State) : (s.ackGimeFirq).seq = s.seq := rfl
@[simp] theorem State.ackGimeFirq_platform (s : State) : (s.ackGimeFirq).platform = s.platform := rfl
@[simp] theorem State.ackGimeFirq_params (s : State) : (s.ackGimeFirq).params = s.params := rfl
@[simp] theorem State.ackGimeFirq_env (s : State) : (s.ackGimeFirq).env = s.env := rfl
@[simp] theorem State.ackGimeFirq_periph (s : State) : (s.ackGimeFirq).periph = s.periph := rfl
@[simp] theorem State.ackGimeFirq_draws (s : State) : (s.ackGimeFirq).draws = s.draws := rfl

@[simp] theorem State.setTimer_regs (s : State) (v : BitVec 12) : (s.setTimer v).regs = s.regs := rfl
@[simp] theorem State.setTimer_pending (s : State) (v : BitVec 12) : (s.setTimer v).pending = s.pending := rfl
@[simp] theorem State.setTimer_cyc (s : State) (v : BitVec 12) : (s.setTimer v).cyc = s.cyc := rfl
@[simp] theorem State.setTimer_halt (s : State) (v : BitVec 12) : (s.setTimer v).halt = s.halt := rfl
@[simp] theorem State.setTimer_hwHalt (s : State) (v : BitVec 12) : (s.setTimer v).hwHalt = s.hwHalt := rfl
@[simp] theorem State.setTimer_lines (s : State) (v : BitVec 12) : (s.setTimer v).lines = s.lines := rfl
@[simp] theorem State.setTimer_ram (s : State) (v : BitVec 12) : (s.setTimer v).ram = s.ram := rfl
@[simp] theorem State.setTimer_sam (s : State) (v : BitVec 12) : (s.setTimer v).sam = s.sam := rfl
@[simp] theorem State.setTimer_pia (s : State) (v : BitVec 12) : (s.setTimer v).pia = s.pia := rfl
@[simp] theorem State.setTimer_seq (s : State) (v : BitVec 12) : (s.setTimer v).seq = s.seq := rfl
@[simp] theorem State.setTimer_platform (s : State) (v : BitVec 12) : (s.setTimer v).platform = s.platform := rfl
@[simp] theorem State.setTimer_params (s : State) (v : BitVec 12) : (s.setTimer v).params = s.params := rfl
@[simp] theorem State.setTimer_env (s : State) (v : BitVec 12) : (s.setTimer v).env = s.env := rfl
@[simp] theorem State.setTimer_periph (s : State) (v : BitVec 12) : (s.setTimer v).periph = s.periph := rfl
@[simp] theorem State.setTimer_draws (s : State) (v : BitVec 12) : (s.setTimer v).draws = s.draws := rfl

@[simp] theorem State.setCrb_regs (s : State) (v : Byte) : (s.setCrb v).regs = s.regs := rfl
@[simp] theorem State.setCrb_pending (s : State) (v : Byte) : (s.setCrb v).pending = s.pending := rfl
@[simp] theorem State.setCrb_cyc (s : State) (v : Byte) : (s.setCrb v).cyc = s.cyc := rfl
@[simp] theorem State.setCrb_halt (s : State) (v : Byte) : (s.setCrb v).halt = s.halt := rfl
@[simp] theorem State.setCrb_hwHalt (s : State) (v : Byte) : (s.setCrb v).hwHalt = s.hwHalt := rfl
@[simp] theorem State.setCrb_ram (s : State) (v : Byte) : (s.setCrb v).ram = s.ram := rfl
@[simp] theorem State.setCrb_gime (s : State) (v : Byte) : (s.setCrb v).gime = s.gime := rfl
@[simp] theorem State.setCrb_sam (s : State) (v : Byte) : (s.setCrb v).sam = s.sam := rfl
@[simp] theorem State.setCrb_seq (s : State) (v : Byte) : (s.setCrb v).seq = s.seq := rfl
@[simp] theorem State.setCrb_platform (s : State) (v : Byte) : (s.setCrb v).platform = s.platform := rfl
@[simp] theorem State.setCrb_params (s : State) (v : Byte) : (s.setCrb v).params = s.params := rfl
@[simp] theorem State.setCrb_env (s : State) (v : Byte) : (s.setCrb v).env = s.env := rfl
@[simp] theorem State.setCrb_periph (s : State) (v : Byte) : (s.setCrb v).periph = s.periph := rfl
@[simp] theorem State.setCrb_draws (s : State) (v : Byte) : (s.setCrb v).draws = s.draws := rfl

@[simp] theorem State.clearNmi_regs (s : State) : (s.clearNmi).regs = s.regs := rfl
@[simp] theorem State.clearNmi_pending (s : State) : (s.clearNmi).pending = s.pending := rfl
@[simp] theorem State.clearNmi_cyc (s : State) : (s.clearNmi).cyc = s.cyc := rfl
@[simp] theorem State.clearNmi_halt (s : State) : (s.clearNmi).halt = s.halt := rfl
@[simp] theorem State.clearNmi_hwHalt (s : State) : (s.clearNmi).hwHalt = s.hwHalt := rfl
@[simp] theorem State.clearNmi_lines (s : State) : (s.clearNmi).lines = { s.lines with nmiExt := false } := rfl
@[simp] theorem State.clearNmi_ram (s : State) : (s.clearNmi).ram = s.ram := rfl
@[simp] theorem State.clearNmi_gime (s : State) : (s.clearNmi).gime = s.gime := rfl
@[simp] theorem State.clearNmi_sam (s : State) : (s.clearNmi).sam = s.sam := rfl
@[simp] theorem State.clearNmi_pia (s : State) : (s.clearNmi).pia = s.pia := rfl
@[simp] theorem State.clearNmi_seq (s : State) : (s.clearNmi).seq = s.seq := rfl
@[simp] theorem State.clearNmi_platform (s : State) : (s.clearNmi).platform = s.platform := rfl
@[simp] theorem State.clearNmi_params (s : State) : (s.clearNmi).params = s.params := rfl
@[simp] theorem State.clearNmi_env (s : State) : (s.clearNmi).env = s.env := rfl
@[simp] theorem State.clearNmi_periph (s : State) : (s.clearNmi).periph = s.periph := rfl
@[simp] theorem State.clearNmi_draws (s : State) : (s.clearNmi).draws = s.draws := rfl

@[simp] theorem State.clearReset_regs (s : State) : (s.clearReset).regs = s.regs := rfl
@[simp] theorem State.clearReset_pending (s : State) : (s.clearReset).pending = s.pending := rfl
@[simp] theorem State.clearReset_cyc (s : State) : (s.clearReset).cyc = s.cyc := rfl
@[simp] theorem State.clearReset_halt (s : State) : (s.clearReset).halt = s.halt := rfl
@[simp] theorem State.clearReset_hwHalt (s : State) : (s.clearReset).hwHalt = s.hwHalt := rfl
@[simp] theorem State.clearReset_lines (s : State) : (s.clearReset).lines = { s.lines with resetHost := false } := rfl
@[simp] theorem State.clearReset_ram (s : State) : (s.clearReset).ram = s.ram := rfl
@[simp] theorem State.clearReset_gime (s : State) : (s.clearReset).gime = s.gime := rfl
@[simp] theorem State.clearReset_sam (s : State) : (s.clearReset).sam = s.sam := rfl
@[simp] theorem State.clearReset_pia (s : State) : (s.clearReset).pia = s.pia := rfl
@[simp] theorem State.clearReset_seq (s : State) : (s.clearReset).seq = s.seq := rfl
@[simp] theorem State.clearReset_platform (s : State) : (s.clearReset).platform = s.platform := rfl
@[simp] theorem State.clearReset_params (s : State) : (s.clearReset).params = s.params := rfl
@[simp] theorem State.clearReset_env (s : State) : (s.clearReset).env = s.env := rfl
@[simp] theorem State.clearReset_periph (s : State) : (s.clearReset).periph = s.periph := rfl
@[simp] theorem State.clearReset_draws (s : State) : (s.clearReset).draws = s.draws := rfl

@[simp] theorem State.raiseReset_regs (s : State) : (s.raiseReset).regs = s.regs := rfl
@[simp] theorem State.raiseReset_pending (s : State) : (s.raiseReset).pending = s.pending := rfl
@[simp] theorem State.raiseReset_cyc (s : State) : (s.raiseReset).cyc = s.cyc := rfl
@[simp] theorem State.raiseReset_halt (s : State) : (s.raiseReset).halt = s.halt := rfl
@[simp] theorem State.raiseReset_hwHalt (s : State) : (s.raiseReset).hwHalt = s.hwHalt := rfl
@[simp] theorem State.raiseReset_lines (s : State) : (s.raiseReset).lines = { s.lines with resetHost := true } := rfl
@[simp] theorem State.raiseReset_ram (s : State) : (s.raiseReset).ram = s.ram := rfl
@[simp] theorem State.raiseReset_gime (s : State) : (s.raiseReset).gime = s.gime := rfl
@[simp] theorem State.raiseReset_sam (s : State) : (s.raiseReset).sam = s.sam := rfl
@[simp] theorem State.raiseReset_pia (s : State) : (s.raiseReset).pia = s.pia := rfl
@[simp] theorem State.raiseReset_seq (s : State) : (s.raiseReset).seq = s.seq := rfl
@[simp] theorem State.raiseReset_platform (s : State) : (s.raiseReset).platform = s.platform := rfl
@[simp] theorem State.raiseReset_params (s : State) : (s.raiseReset).params = s.params := rfl
@[simp] theorem State.raiseReset_env (s : State) : (s.raiseReset).env = s.env := rfl
@[simp] theorem State.raiseReset_periph (s : State) : (s.raiseReset).periph = s.periph := rfl
@[simp] theorem State.raiseReset_draws (s : State) : (s.raiseReset).draws = s.draws := rfl

@[simp] theorem State.setHwHalt_regs (s : State) (b : Bool) : (s.setHwHalt b).regs = s.regs := rfl
@[simp] theorem State.setHwHalt_pending (s : State) (b : Bool) : (s.setHwHalt b).pending = s.pending := rfl
@[simp] theorem State.setHwHalt_cyc (s : State) (b : Bool) : (s.setHwHalt b).cyc = s.cyc := rfl
@[simp] theorem State.setHwHalt_halt (s : State) (b : Bool) : (s.setHwHalt b).halt = s.halt := rfl
@[simp] theorem State.setHwHalt_hwHalt (s : State) (b : Bool) : (s.setHwHalt b).hwHalt = b := rfl
@[simp] theorem State.setHwHalt_lines (s : State) (b : Bool) : (s.setHwHalt b).lines = s.lines := rfl
@[simp] theorem State.setHwHalt_ram (s : State) (b : Bool) : (s.setHwHalt b).ram = s.ram := rfl
@[simp] theorem State.setHwHalt_gime (s : State) (b : Bool) : (s.setHwHalt b).gime = s.gime := rfl
@[simp] theorem State.setHwHalt_sam (s : State) (b : Bool) : (s.setHwHalt b).sam = s.sam := rfl
@[simp] theorem State.setHwHalt_pia (s : State) (b : Bool) : (s.setHwHalt b).pia = s.pia := rfl
@[simp] theorem State.setHwHalt_seq (s : State) (b : Bool) : (s.setHwHalt b).seq = s.seq := rfl
@[simp] theorem State.setHwHalt_platform (s : State) (b : Bool) : (s.setHwHalt b).platform = s.platform := rfl
@[simp] theorem State.setHwHalt_params (s : State) (b : Bool) : (s.setHwHalt b).params = s.params := rfl
@[simp] theorem State.setHwHalt_env (s : State) (b : Bool) : (s.setHwHalt b).env = s.env := rfl
@[simp] theorem State.setHwHalt_periph (s : State) (b : Bool) : (s.setHwHalt b).periph = s.periph := rfl
@[simp] theorem State.setHwHalt_draws (s : State) (b : Bool) : (s.setHwHalt b).draws = s.draws := rfl

@[simp] theorem State.forcePC_regs (s : State) (a : Word) : (s.forcePC a).regs = { s.regs with pc := a } := rfl
@[simp] theorem State.forcePC_pending (s : State) (a : Word) : (s.forcePC a).pending = s.pending := rfl
@[simp] theorem State.forcePC_cyc (s : State) (a : Word) : (s.forcePC a).cyc = s.cyc := rfl
@[simp] theorem State.forcePC_halt (s : State) (a : Word) : (s.forcePC a).halt = s.halt := rfl
@[simp] theorem State.forcePC_hwHalt (s : State) (a : Word) : (s.forcePC a).hwHalt = s.hwHalt := rfl
@[simp] theorem State.forcePC_lines (s : State) (a : Word) : (s.forcePC a).lines = s.lines := rfl
@[simp] theorem State.forcePC_ram (s : State) (a : Word) : (s.forcePC a).ram = s.ram := rfl
@[simp] theorem State.forcePC_gime (s : State) (a : Word) : (s.forcePC a).gime = s.gime := rfl
@[simp] theorem State.forcePC_sam (s : State) (a : Word) : (s.forcePC a).sam = s.sam := rfl
@[simp] theorem State.forcePC_pia (s : State) (a : Word) : (s.forcePC a).pia = s.pia := rfl
@[simp] theorem State.forcePC_seq (s : State) (a : Word) : (s.forcePC a).seq = s.seq := rfl
@[simp] theorem State.forcePC_platform (s : State) (a : Word) : (s.forcePC a).platform = s.platform := rfl
@[simp] theorem State.forcePC_params (s : State) (a : Word) : (s.forcePC a).params = s.params := rfl
@[simp] theorem State.forcePC_env (s : State) (a : Word) : (s.forcePC a).env = s.env := rfl
@[simp] theorem State.forcePC_periph (s : State) (a : Word) : (s.forcePC a).periph = s.periph := rfl
@[simp] theorem State.forcePC_draws (s : State) (a : Word) : (s.forcePC a).draws = s.draws := rfl

@[simp] theorem State.setTimerCount_regs (s : State) (n : Nat) : (s.setTimerCount n).regs = s.regs := rfl
@[simp] theorem State.setTimerCount_pending (s : State) (n : Nat) : (s.setTimerCount n).pending = s.pending := rfl
@[simp] theorem State.setTimerCount_cyc (s : State) (n : Nat) : (s.setTimerCount n).cyc = s.cyc := rfl
@[simp] theorem State.setTimerCount_halt (s : State) (n : Nat) : (s.setTimerCount n).halt = s.halt := rfl
@[simp] theorem State.setTimerCount_hwHalt (s : State) (n : Nat) : (s.setTimerCount n).hwHalt = s.hwHalt := rfl
@[simp] theorem State.setTimerCount_lines (s : State) (n : Nat) : (s.setTimerCount n).lines = s.lines := rfl
@[simp] theorem State.setTimerCount_ram (s : State) (n : Nat) : (s.setTimerCount n).ram = s.ram := rfl
@[simp] theorem State.setTimerCount_sam (s : State) (n : Nat) : (s.setTimerCount n).sam = s.sam := rfl
@[simp] theorem State.setTimerCount_pia (s : State) (n : Nat) : (s.setTimerCount n).pia = s.pia := rfl
@[simp] theorem State.setTimerCount_seq (s : State) (n : Nat) : (s.setTimerCount n).seq = s.seq := rfl
@[simp] theorem State.setTimerCount_platform (s : State) (n : Nat) : (s.setTimerCount n).platform = s.platform := rfl
@[simp] theorem State.setTimerCount_params (s : State) (n : Nat) : (s.setTimerCount n).params = s.params := rfl
@[simp] theorem State.setTimerCount_env (s : State) (n : Nat) : (s.setTimerCount n).env = s.env := rfl
@[simp] theorem State.setTimerCount_periph (s : State) (n : Nat) : (s.setTimerCount n).periph = s.periph := rfl
@[simp] theorem State.setTimerCount_draws (s : State) (n : Nat) : (s.setTimerCount n).draws = s.draws := rfl

@[simp] theorem State.toggleBlink_regs (s : State) : (s.toggleBlink).regs = s.regs := rfl
@[simp] theorem State.toggleBlink_pending (s : State) : (s.toggleBlink).pending = s.pending := rfl
@[simp] theorem State.toggleBlink_cyc (s : State) : (s.toggleBlink).cyc = s.cyc := rfl
@[simp] theorem State.toggleBlink_halt (s : State) : (s.toggleBlink).halt = s.halt := rfl
@[simp] theorem State.toggleBlink_hwHalt (s : State) : (s.toggleBlink).hwHalt = s.hwHalt := rfl
@[simp] theorem State.toggleBlink_lines (s : State) : (s.toggleBlink).lines = s.lines := rfl
@[simp] theorem State.toggleBlink_ram (s : State) : (s.toggleBlink).ram = s.ram := rfl
@[simp] theorem State.toggleBlink_sam (s : State) : (s.toggleBlink).sam = s.sam := rfl
@[simp] theorem State.toggleBlink_pia (s : State) : (s.toggleBlink).pia = s.pia := rfl
@[simp] theorem State.toggleBlink_seq (s : State) : (s.toggleBlink).seq = s.seq := rfl
@[simp] theorem State.toggleBlink_platform (s : State) : (s.toggleBlink).platform = s.platform := rfl
@[simp] theorem State.toggleBlink_params (s : State) : (s.toggleBlink).params = s.params := rfl
@[simp] theorem State.toggleBlink_env (s : State) : (s.toggleBlink).env = s.env := rfl
@[simp] theorem State.toggleBlink_periph (s : State) : (s.toggleBlink).periph = s.periph := rfl
@[simp] theorem State.toggleBlink_draws (s : State) : (s.toggleBlink).draws = s.draws := rfl

@[simp] theorem State.raiseIrq_regs (s : State) (k : GimeEv) : (s.raiseIrq k).regs = s.regs := rfl
@[simp] theorem State.raiseIrq_pending (s : State) (k : GimeEv) : (s.raiseIrq k).pending = s.pending := rfl
@[simp] theorem State.raiseIrq_cyc (s : State) (k : GimeEv) : (s.raiseIrq k).cyc = s.cyc := rfl
@[simp] theorem State.raiseIrq_halt (s : State) (k : GimeEv) : (s.raiseIrq k).halt = s.halt := rfl
@[simp] theorem State.raiseIrq_hwHalt (s : State) (k : GimeEv) : (s.raiseIrq k).hwHalt = s.hwHalt := rfl
@[simp] theorem State.raiseIrq_ram (s : State) (k : GimeEv) : (s.raiseIrq k).ram = s.ram := rfl
@[simp] theorem State.raiseIrq_sam (s : State) (k : GimeEv) : (s.raiseIrq k).sam = s.sam := rfl
@[simp] theorem State.raiseIrq_pia (s : State) (k : GimeEv) : (s.raiseIrq k).pia = s.pia := rfl
@[simp] theorem State.raiseIrq_seq (s : State) (k : GimeEv) : (s.raiseIrq k).seq = s.seq := rfl
@[simp] theorem State.raiseIrq_platform (s : State) (k : GimeEv) : (s.raiseIrq k).platform = s.platform := rfl
@[simp] theorem State.raiseIrq_params (s : State) (k : GimeEv) : (s.raiseIrq k).params = s.params := rfl
@[simp] theorem State.raiseIrq_env (s : State) (k : GimeEv) : (s.raiseIrq k).env = s.env := rfl
@[simp] theorem State.raiseIrq_periph (s : State) (k : GimeEv) : (s.raiseIrq k).periph = s.periph := rfl
@[simp] theorem State.raiseIrq_draws (s : State) (k : GimeEv) : (s.raiseIrq k).draws = s.draws := rfl

@[simp] theorem State.raiseFirq_regs (s : State) (k : GimeEv) : (s.raiseFirq k).regs = s.regs := rfl
@[simp] theorem State.raiseFirq_pending (s : State) (k : GimeEv) : (s.raiseFirq k).pending = s.pending := rfl
@[simp] theorem State.raiseFirq_cyc (s : State) (k : GimeEv) : (s.raiseFirq k).cyc = s.cyc := rfl
@[simp] theorem State.raiseFirq_halt (s : State) (k : GimeEv) : (s.raiseFirq k).halt = s.halt := rfl
@[simp] theorem State.raiseFirq_hwHalt (s : State) (k : GimeEv) : (s.raiseFirq k).hwHalt = s.hwHalt := rfl
@[simp] theorem State.raiseFirq_ram (s : State) (k : GimeEv) : (s.raiseFirq k).ram = s.ram := rfl
@[simp] theorem State.raiseFirq_sam (s : State) (k : GimeEv) : (s.raiseFirq k).sam = s.sam := rfl
@[simp] theorem State.raiseFirq_pia (s : State) (k : GimeEv) : (s.raiseFirq k).pia = s.pia := rfl
@[simp] theorem State.raiseFirq_seq (s : State) (k : GimeEv) : (s.raiseFirq k).seq = s.seq := rfl
@[simp] theorem State.raiseFirq_platform (s : State) (k : GimeEv) : (s.raiseFirq k).platform = s.platform := rfl
@[simp] theorem State.raiseFirq_params (s : State) (k : GimeEv) : (s.raiseFirq k).params = s.params := rfl
@[simp] theorem State.raiseFirq_env (s : State) (k : GimeEv) : (s.raiseFirq k).env = s.env := rfl
@[simp] theorem State.raiseFirq_periph (s : State) (k : GimeEv) : (s.raiseFirq k).periph = s.periph := rfl
@[simp] theorem State.raiseFirq_draws (s : State) (k : GimeEv) : (s.raiseFirq k).draws = s.draws := rfl

@[simp] theorem State.piaVsyncTick_regs (s : State) : (s.piaVsyncTick).regs = s.regs := rfl
@[simp] theorem State.piaVsyncTick_pending (s : State) : (s.piaVsyncTick).pending = s.pending := rfl
@[simp] theorem State.piaVsyncTick_cyc (s : State) : (s.piaVsyncTick).cyc = s.cyc := rfl
@[simp] theorem State.piaVsyncTick_halt (s : State) : (s.piaVsyncTick).halt = s.halt := rfl
@[simp] theorem State.piaVsyncTick_hwHalt (s : State) : (s.piaVsyncTick).hwHalt = s.hwHalt := rfl
@[simp] theorem State.piaVsyncTick_ram (s : State) : (s.piaVsyncTick).ram = s.ram := rfl
@[simp] theorem State.piaVsyncTick_gime (s : State) : (s.piaVsyncTick).gime = s.gime := rfl
@[simp] theorem State.piaVsyncTick_sam (s : State) : (s.piaVsyncTick).sam = s.sam := rfl
@[simp] theorem State.piaVsyncTick_seq (s : State) : (s.piaVsyncTick).seq = s.seq := rfl
@[simp] theorem State.piaVsyncTick_platform (s : State) : (s.piaVsyncTick).platform = s.platform := rfl
@[simp] theorem State.piaVsyncTick_params (s : State) : (s.piaVsyncTick).params = s.params := rfl
@[simp] theorem State.piaVsyncTick_env (s : State) : (s.piaVsyncTick).env = s.env := rfl
@[simp] theorem State.piaVsyncTick_periph (s : State) : (s.piaVsyncTick).periph = s.periph := rfl
@[simp] theorem State.piaVsyncTick_draws (s : State) : (s.piaVsyncTick).draws = s.draws := rfl

@[simp] theorem State.advanceCounters_regs (s : State) : (s.advanceCounters).regs = s.regs := rfl
@[simp] theorem State.advanceCounters_pending (s : State) : (s.advanceCounters).pending = s.pending := rfl
@[simp] theorem State.advanceCounters_cyc (s : State) : (s.advanceCounters).cyc = s.cyc := rfl
@[simp] theorem State.advanceCounters_halt (s : State) : (s.advanceCounters).halt = s.halt := rfl
@[simp] theorem State.advanceCounters_hwHalt (s : State) : (s.advanceCounters).hwHalt = s.hwHalt := rfl
@[simp] theorem State.advanceCounters_lines (s : State) : (s.advanceCounters).lines = s.lines := rfl
@[simp] theorem State.advanceCounters_ram (s : State) : (s.advanceCounters).ram = s.ram := rfl
@[simp] theorem State.advanceCounters_gime (s : State) : (s.advanceCounters).gime = s.gime := rfl
@[simp] theorem State.advanceCounters_sam (s : State) : (s.advanceCounters).sam = s.sam := rfl
@[simp] theorem State.advanceCounters_pia (s : State) : (s.advanceCounters).pia = s.pia := rfl
@[simp] theorem State.advanceCounters_seq (s : State) : (s.advanceCounters).seq = nextCounters s.seq := rfl
@[simp] theorem State.advanceCounters_platform (s : State) : (s.advanceCounters).platform = s.platform := rfl
@[simp] theorem State.advanceCounters_params (s : State) : (s.advanceCounters).params = s.params := rfl
@[simp] theorem State.advanceCounters_env (s : State) : (s.advanceCounters).env = s.env := rfl
@[simp] theorem State.advanceCounters_periph (s : State) : (s.advanceCounters).periph = s.periph := rfl
@[simp] theorem State.advanceCounters_draws (s : State) : (s.advanceCounters).draws = s.draws := rfl

@[simp] theorem State.physWrite_regs (s : State) (p : Nat) (v : Byte) : (s.physWrite p v).regs = s.regs := rfl
@[simp] theorem State.physWrite_pending (s : State) (p : Nat) (v : Byte) : (s.physWrite p v).pending = s.pending := rfl
@[simp] theorem State.physWrite_cyc (s : State) (p : Nat) (v : Byte) : (s.physWrite p v).cyc = s.cyc := rfl
@[simp] theorem State.physWrite_halt (s : State) (p : Nat) (v : Byte) : (s.physWrite p v).halt = s.halt := rfl
@[simp] theorem State.physWrite_hwHalt (s : State) (p : Nat) (v : Byte) : (s.physWrite p v).hwHalt = s.hwHalt := rfl
@[simp] theorem State.physWrite_lines (s : State) (p : Nat) (v : Byte) : (s.physWrite p v).lines = s.lines := rfl
@[simp] theorem State.physWrite_ram (s : State) (p : Nat) (v : Byte) : (s.physWrite p v).ram = ramWrite s.ram (s.ramAddr p) v := rfl
@[simp] theorem State.physWrite_gime (s : State) (p : Nat) (v : Byte) : (s.physWrite p v).gime = s.gime := rfl
@[simp] theorem State.physWrite_sam (s : State) (p : Nat) (v : Byte) : (s.physWrite p v).sam = s.sam := rfl
@[simp] theorem State.physWrite_pia (s : State) (p : Nat) (v : Byte) : (s.physWrite p v).pia = s.pia := rfl
@[simp] theorem State.physWrite_seq (s : State) (p : Nat) (v : Byte) : (s.physWrite p v).seq = s.seq := rfl
@[simp] theorem State.physWrite_platform (s : State) (p : Nat) (v : Byte) : (s.physWrite p v).platform = s.platform := rfl
@[simp] theorem State.physWrite_params (s : State) (p : Nat) (v : Byte) : (s.physWrite p v).params = s.params := rfl
@[simp] theorem State.physWrite_env (s : State) (p : Nat) (v : Byte) : (s.physWrite p v).env = s.env := rfl
@[simp] theorem State.physWrite_periph (s : State) (p : Nat) (v : Byte) : (s.physWrite p v).periph = s.periph := rfl
@[simp] theorem State.physWrite_draws (s : State) (p : Nat) (v : Byte) : (s.physWrite p v).draws = s.draws := rfl

@[simp] theorem State.startStep_regs (s : State) : (s.startStep).regs = s.regs := rfl
@[simp] theorem State.startStep_pending (s : State) : (s.startStep).pending = s.pending := rfl
@[simp] theorem State.startStep_cyc (s : State) : (s.startStep).cyc = 0 := rfl
@[simp] theorem State.startStep_halt (s : State) : (s.startStep).halt = s.halt := rfl
@[simp] theorem State.startStep_hwHalt (s : State) : (s.startStep).hwHalt = s.hwHalt := rfl
@[simp] theorem State.startStep_lines (s : State) : (s.startStep).lines = s.lines := rfl
@[simp] theorem State.startStep_ram (s : State) : (s.startStep).ram = s.ram := rfl
@[simp] theorem State.startStep_gime (s : State) : (s.startStep).gime = s.gime := rfl
@[simp] theorem State.startStep_sam (s : State) : (s.startStep).sam = s.sam := rfl
@[simp] theorem State.startStep_pia (s : State) : (s.startStep).pia = s.pia := rfl
@[simp] theorem State.startStep_seq (s : State) : (s.startStep).seq = s.seq := rfl
@[simp] theorem State.startStep_platform (s : State) : (s.startStep).platform = s.platform := rfl
@[simp] theorem State.startStep_params (s : State) : (s.startStep).params = s.params := rfl
@[simp] theorem State.startStep_env (s : State) : (s.startStep).env = s.env := rfl
@[simp] theorem State.startStep_periph (s : State) : (s.startStep).periph = s.periph := rfl
@[simp] theorem State.startStep_draws (s : State) : (s.startStep).draws = s.draws := rfl

@[simp] theorem State.chargeStep_regs (s : State) : (s.chargeStep).regs = s.regs := rfl
@[simp] theorem State.chargeStep_pending (s : State) : (s.chargeStep).pending = s.cyc - 1 := rfl
@[simp] theorem State.chargeStep_cyc (s : State) : (s.chargeStep).cyc = s.cyc := rfl
@[simp] theorem State.chargeStep_halt (s : State) : (s.chargeStep).halt = s.halt := rfl
@[simp] theorem State.chargeStep_hwHalt (s : State) : (s.chargeStep).hwHalt = s.hwHalt := rfl
@[simp] theorem State.chargeStep_lines (s : State) : (s.chargeStep).lines = s.lines := rfl
@[simp] theorem State.chargeStep_ram (s : State) : (s.chargeStep).ram = s.ram := rfl
@[simp] theorem State.chargeStep_gime (s : State) : (s.chargeStep).gime = s.gime := rfl
@[simp] theorem State.chargeStep_sam (s : State) : (s.chargeStep).sam = s.sam := rfl
@[simp] theorem State.chargeStep_pia (s : State) : (s.chargeStep).pia = s.pia := rfl
@[simp] theorem State.chargeStep_seq (s : State) : (s.chargeStep).seq = s.seq := rfl
@[simp] theorem State.chargeStep_platform (s : State) : (s.chargeStep).platform = s.platform := rfl
@[simp] theorem State.chargeStep_params (s : State) : (s.chargeStep).params = s.params := rfl
@[simp] theorem State.chargeStep_env (s : State) : (s.chargeStep).env = s.env := rfl
@[simp] theorem State.chargeStep_periph (s : State) : (s.chargeStep).periph = s.periph := rfl
@[simp] theorem State.chargeStep_draws (s : State) : (s.chargeStep).draws = s.draws := rfl

end Sys2Proof.Machine
end

