-- ==== Sys2Proof/Laws/Memory.lean ====
section
/-! SUPPORT. The laws of RAM: reading back, leaving the rest alone, and the canonical form. -/

namespace Sys2Proof.Machine

theorem ramAddr_lt (s : State) (p : Nat) : s.ramAddr p < s.params.ramSize := Nat.mod_lt _ (Nat.two_pow_pos _)

theorem ramRead_consCell (p q : Nat) (v : Byte) (m : Memory) (h : q ≠ p) : ramRead (consCell p v m) q = ramRead m q := by
  unfold consCell
  split
  · rfl
  · simp [ramRead, h]

/-- A write leaves every other address alone. -/
theorem ramRead_ramWrite_of_ne (m : Memory) (p q : Nat) (v : Byte) (h : q ≠ p) :
    ramRead (ramWrite m p v) q = ramRead m q := by
  induction m with
  | nil => exact ramRead_consCell p q v [] h
  | cons c rest ih =>
    obtain ⟨a, w⟩ := c
    simp only [ramWrite]
    split
    · exact ramRead_consCell p q v _ h
    · split
      · subst_vars
        rw [ramRead_consCell _ _ _ _ h]
        simp [ramRead, h]
      · simp only [ramRead, ih]

theorem ramWfFrom_mono {lo lo' : Nat} (h : lo' ≤ lo) (m : Memory) (hm : ramWfFrom lo m = true) :
    ramWfFrom lo' m = true := by
  cases m with
  | nil => rfl
  | cons c rest =>
    obtain ⟨a, w⟩ := c
    simp only [ramWfFrom, Bool.and_eq_true, decide_eq_true_eq] at hm ⊢
    exact ⟨⟨by omega, hm.1.2⟩, hm.2⟩

/-- An address below the bound of a canonical list reads as unlisted. -/
theorem ramRead_of_lt {lo p : Nat} (m : Memory) (hm : ramWfFrom lo m = true) (h : p < lo) :
    ramRead m p = unlistedByte := by
  induction m generalizing lo with
  | nil => rfl
  | cons c rest ih =>
    obtain ⟨a, w⟩ := c
    simp only [ramWfFrom, Bool.and_eq_true, decide_eq_true_eq] at hm
    have : p ≠ a := by omega
    simp only [ramRead, this, if_false]
    exact ih hm.2 (by omega)

theorem ramRead_consCell_self {lo : Nat} (p : Nat) (v : Byte) (m : Memory) (hm : ramWfFrom lo m = true) (h : p < lo) :
    ramRead (consCell p v m) p = v := by
  unfold consCell
  split
  · rw [ramRead_of_lt m hm h]
    exact Eq.symm ‹_›
  · simp [ramRead]

/-- A read after a write to the same address gives the value written. -/
theorem ramRead_ramWrite_self {lo : Nat} (m : Memory) (p : Nat) (v : Byte) (hm : ramWfFrom lo m = true) :
    ramRead (ramWrite m p v) p = v := by
  induction m generalizing lo with
  | nil => exact ramRead_consCell_self (lo := p + 1) p v [] rfl (by omega)
  | cons c rest ih =>
    obtain ⟨a, w⟩ := c
    have hm0 := hm
    simp only [ramWfFrom, Bool.and_eq_true, decide_eq_true_eq] at hm
    simp only [ramWrite]
    split
    · exact ramRead_consCell_self (lo := p + 1) p v _ (by
        simp only [ramWfFrom, Bool.and_eq_true, decide_eq_true_eq]
        exact ⟨⟨by omega, hm.1.2⟩, hm.2⟩) (by omega)
    · split
      · subst_vars
        exact ramRead_consCell_self _ v rest hm.2 (by omega)
      · rename_i h1 h2
        simp only [ramRead, h2, if_false]
        exact ih hm.2

theorem ramWfFrom_consCell {lo : Nat} (p : Nat) (v : Byte) (m : Memory) (h1 : lo ≤ p)
    (hm : ramWfFrom (p + 1) m = true) : ramWfFrom lo (consCell p v m) = true := by
  unfold consCell
  split
  · exact ramWfFrom_mono (by omega) m hm
  · simp only [ramWfFrom, Bool.and_eq_true, decide_eq_true_eq, bne_iff_ne]
    exact ⟨⟨h1, ‹_›⟩, hm⟩

theorem ramWfFrom_ramWrite {lo : Nat} (m : Memory) (p : Nat) (v : Byte) (h1 : lo ≤ p)
    (hm : ramWfFrom lo m = true) : ramWfFrom lo (ramWrite m p v) = true := by
  induction m generalizing lo with
  | nil => exact ramWfFrom_consCell p v [] h1 rfl
  | cons c rest ih =>
    obtain ⟨a, w⟩ := c
    have hm0 := hm
    simp only [ramWfFrom, Bool.and_eq_true, decide_eq_true_eq] at hm
    simp only [ramWrite]
    split
    · refine ramWfFrom_consCell p v _ h1 ?_
      simp only [ramWfFrom, Bool.and_eq_true, decide_eq_true_eq]
      exact ⟨⟨by omega, hm.1.2⟩, hm.2⟩
    · split
      · subst_vars
        exact ramWfFrom_consCell _ v rest h1 hm.2
      · have := ih (lo := a + 1) (by omega) hm.2
        simp only [ramWfFrom, Bool.and_eq_true, decide_eq_true_eq]
        exact ⟨hm.1, this⟩

/-- A write keeps the canonical form. -/
theorem wf_ramWrite (m : Memory) (p : Nat) (v : Byte) (hm : m.wf = true) : Memory.wf (ramWrite m p v) = true :=
  ramWfFrom_ramWrite m p v (Nat.zero_le p) hm

/-- A write lists its own address, or none that was not listed. -/
theorem mem_ramWrite {m : Memory} {p : Nat} {v : Byte} {c : Host.Cell} (h : c ∈ ramWrite m p v) : c.1 = p ∨ c ∈ m := by
  have hc : ∀ rest : Memory, c ∈ consCell p v rest → c.1 = p ∨ c ∈ rest := by
    intro rest h
    unfold consCell at h
    split at h
    · exact .inr h
    · rcases List.mem_cons.mp h with rfl | h
      · exact .inl rfl
      · exact .inr h
  induction m with
  | nil => exact hc [] h
  | cons d rest ih =>
    obtain ⟨a, w⟩ := d
    simp only [ramWrite] at h
    split at h
    · exact hc _ h
    · split at h
      · exact (hc _ h).imp_right (List.mem_cons_of_mem _)
      · rcases List.mem_cons.mp h with rfl | h
        · exact .inr List.mem_cons_self
        · exact (ih h).imp_right (List.mem_cons_of_mem _)

/-- A write inside the installed RAM keeps every listed address inside it. -/
theorem ramInside_ramWrite (s : State) (p : Nat) (v : Byte) (hp : p < s.params.ramSize) (hm : s.ramInside = true) :
    ({ s with ram := ramWrite s.ram p v }).ramInside = true := by
  simp only [State.ramInside, List.all_eq_true, decide_eq_true_eq] at hm ⊢
  intro c hc
  rcases mem_ramWrite hc with h | h
  · rw [h]; exact hp
  · exact hm c h

/-- The physical entry keeps the canonical form. -/
theorem wf_physWrite (s : State) (p : Nat) (v : Byte) (hm : s.ram.wf = true) : (s.physWrite p v).ram.wf = true :=
  wf_ramWrite _ _ _ hm

/-- The physical entry keeps every listed address inside the installed RAM. -/
theorem ramInside_physWrite (s : State) (p : Nat) (v : Byte) (hm : s.ramInside = true) :
    (s.physWrite p v).ramInside = true := ramInside_ramWrite s _ v (ramAddr_lt s p) hm

/-- RAM after reset has the canonical form. -/
theorem wf_reset : State.reset.ram.wf = true := rfl

/-- RAM after reset lists nothing outside the installed RAM. -/
theorem ramInside_reset : State.reset.ramInside = true := rfl

end Sys2Proof.Machine
end

