-- ==== Sys2Proof/Laws/Bus.lean ====
section
/-! SUPPORT. What a bus access can do: a read acknowledges latches and draws, a write stores one byte of RAM or one I/O
register; neither sees or changes the registers, the halts or the counters. -/

namespace Sys2Proof.Machine

open Sys2Proof.Safety

/-! Reads. -/

@[simp] theorem afterReads_none (s : State) : afterReads false false false 0 s = s := rfl

/-- Everything a logical read can do to the state. -/
theorem readByte_state (s : State) (a : Word) : ∃ v q f n, (s.readByte a).2 = afterReads v q f n s := by
  unfold State.readByte
  split
  · exact ⟨false, false, false, 0, rfl⟩
  · split
    · unfold State.ioRead
      split
      · split
        · exact ⟨true, false, false, 1, rfl⟩
        · exact ⟨false, false, false, 0, rfl⟩
        · exact ⟨false, false, false, 1, rfl⟩
      all_goals first
        | exact ⟨false, false, false, 1, rfl⟩
        | exact ⟨false, true, false, 0, rfl⟩
        | exact ⟨false, false, true, 0, rfl⟩
        | exact ⟨false, false, false, 0, rfl⟩
    · split <;> exact ⟨false, false, false, 0, rfl⟩

/-- A read below the I/O window leaves the state alone. -/
theorem readByte_pure (s : State) (a : Word) (h : a.toNat < 0xFF00) : (s.readByte a).2 = s := by
  unfold State.readByte
  rw [if_neg (by omega), if_neg (by omega)]
  split <;> rfl

/-- A read of the vector window is the internal ROM. -/
theorem readByte_vector (s : State) (a : Word) (h : 0xFFE0 ≤ a.toNat) :
    s.readByte a = (s.intRom (a.toNat - 0x8000), s) := by
  unfold State.readByte
  rw [if_pos h]

/-- Two rounds of read effects are one. -/
theorem afterReads_afterReads (v q f v' q' f' : Bool) (n n' : Nat) (s : State) :
    afterReads v' q' f' n' (afterReads v q f n s) = afterReads (v || v') (q || q') (f || f') (n + n') s := by
  cases v <;> cases q <;> cases f <;> cases v' <;> cases q' <;> cases f' <;>
    simp only [afterReads, State.ackVsync, State.ackGimeIrq, State.ackGimeFirq, Bool.or_true, Bool.or_false,
      Bool.false_eq_true, if_true, if_false, Nat.add_assoc]

/-- Read effects do not touch these fields. -/
theorem afterReads_kept (v q f : Bool) (n : Nat) (s : State) :
    (afterReads v q f n s).regs = s.regs ∧ (afterReads v q f n s).pending = s.pending ∧
    (afterReads v q f n s).cyc = s.cyc ∧ (afterReads v q f n s).halt = s.halt ∧
    (afterReads v q f n s).hwHalt = s.hwHalt ∧ (afterReads v q f n s).ram = s.ram ∧
    (afterReads v q f n s).sam = s.sam ∧ (afterReads v q f n s).seq = s.seq ∧
    (afterReads v q f n s).platform = s.platform ∧ (afterReads v q f n s).env = s.env ∧
    (afterReads v q f n s).periph = s.periph ∧ (afterReads v q f n s).params = s.params := by
  cases v <;> cases q <;> cases f <;> exact ⟨rfl, rfl, rfl, rfl, rfl, rfl, rfl, rfl, rfl, rfl, rfl, rfl⟩

section
variable (s : State) (a : Word)
@[simp] theorem readByte_regs : (s.readByte a).2.regs = s.regs := by
  obtain ⟨v, q, f, n, h⟩ := readByte_state s a; rw [h]; exact (afterReads_kept v q f n s).1
@[simp] theorem readByte_pending : (s.readByte a).2.pending = s.pending := by
  obtain ⟨v, q, f, n, h⟩ := readByte_state s a; rw [h]; exact (afterReads_kept v q f n s).2.1
@[simp] theorem readByte_cyc : (s.readByte a).2.cyc = s.cyc := by
  obtain ⟨v, q, f, n, h⟩ := readByte_state s a; rw [h]; exact (afterReads_kept v q f n s).2.2.1
@[simp] theorem readByte_halt : (s.readByte a).2.halt = s.halt := by
  obtain ⟨v, q, f, n, h⟩ := readByte_state s a; rw [h]; exact (afterReads_kept v q f n s).2.2.2.1
@[simp] theorem readByte_hwHalt : (s.readByte a).2.hwHalt = s.hwHalt := by
  obtain ⟨v, q, f, n, h⟩ := readByte_state s a; rw [h]; exact (afterReads_kept v q f n s).2.2.2.2.1
@[simp] theorem readByte_ram : (s.readByte a).2.ram = s.ram := by
  obtain ⟨v, q, f, n, h⟩ := readByte_state s a; rw [h]; exact (afterReads_kept v q f n s).2.2.2.2.2.1
@[simp] theorem readByte_sam : (s.readByte a).2.sam = s.sam := by
  obtain ⟨v, q, f, n, h⟩ := readByte_state s a; rw [h]; exact (afterReads_kept v q f n s).2.2.2.2.2.2.1
@[simp] theorem readByte_seq : (s.readByte a).2.seq = s.seq := by
  obtain ⟨v, q, f, n, h⟩ := readByte_state s a; rw [h]; exact (afterReads_kept v q f n s).2.2.2.2.2.2.2.1
@[simp] theorem readByte_platform : (s.readByte a).2.platform = s.platform := by
  obtain ⟨v, q, f, n, h⟩ := readByte_state s a; rw [h]; exact (afterReads_kept v q f n s).2.2.2.2.2.2.2.2.1
@[simp] theorem readByte_env : (s.readByte a).2.env = s.env := by
  obtain ⟨v, q, f, n, h⟩ := readByte_state s a; rw [h]; exact (afterReads_kept v q f n s).2.2.2.2.2.2.2.2.2.1
@[simp] theorem readByte_periph : (s.readByte a).2.periph = s.periph := by
  obtain ⟨v, q, f, n, h⟩ := readByte_state s a; rw [h]; exact (afterReads_kept v q f n s).2.2.2.2.2.2.2.2.2.2.1
@[simp] theorem readByte_params : (s.readByte a).2.params = s.params := by
  obtain ⟨v, q, f, n, h⟩ := readByte_state s a; rw [h]; exact (afterReads_kept v q f n s).2.2.2.2.2.2.2.2.2.2.2
end

/-- A read sees neither the registers nor the cycle total nor the soft halt, and leaves those it finds. -/
theorem readByte_core (s : State) (g : Regs) (c : Nat) (h : Halt) (a : Word) :
    ({ s with regs := g, cyc := c, halt := h }).readByte a =
      ((s.readByte a).1, { (s.readByte a).2 with regs := g, cyc := c, halt := h }) := by
  unfold State.readByte
  split
  · rfl
  · split
    · unfold State.ioRead
      dsimp only
      split
      · split <;> rfl
      all_goals rfl
    · show (match (s.translate a).2 with | some l => _ | none => _) = _
      generalize (s.translate a).2 = o
      cases o <;> rfl

/-- The same of the registers alone. -/
theorem readByte_withRegs (s : State) (g : Regs) (a : Word) :
    ({ s with regs := g }).readByte a = ((s.readByte a).1, { (s.readByte a).2 with regs := g }) := by
  have h := readByte_core s g s.cyc s.halt a
  have hc := readByte_cyc s a
  have hh := readByte_halt s a
  generalize s.readByte a = r at h hc hh
  obtain ⟨v, t⟩ := r
  dsimp only at hc hh h ⊢
  rw [← hc, ← hh] at h
  refine Eq.trans ?_ h
  rw [hc, hh]

/-! Writes. -/

/-- The RAM after a logical write: one byte, at the address the write stores to. -/
theorem writeByte_ram (s : State) (a : Word) (v : Byte) :
    (s.writeByte a v).ram =
      match s.storeAddr a with
      | some p => ramWrite s.ram p v
      | none => s.ram := by
  unfold State.writeByte State.storeAddr
  split
  · rw [if_pos (by omega)]
  · split
    · rename_i h2
      unfold State.ioWrite
      split
      · split <;> rfl
      all_goals rfl
    · generalize ((s.translate a).2.isNone || decide (s.params.romWritePolicy = .toRam)) = stored
      cases stored <;> rfl

/-- Below the I/O window a write changes RAM only. -/
theorem writeByte_plain (s : State) (a : Word) (v : Byte) (h : a.toNat < 0xFF00) :
    s.writeByte a v = { s with ram := (s.writeByte a v).ram } := by
  unfold State.writeByte
  rw [if_neg (by omega), if_neg (by omega)]
  split <;> rfl

/-- A write to the vector window does nothing. -/
theorem writeByte_vector (s : State) (a : Word) (v : Byte) (h : 0xFFE0 ≤ a.toNat) : s.writeByte a v = s := by
  unfold State.writeByte
  rw [if_pos h]

/-- What a logical write leaves alone. -/
theorem writeByte_kept (s : State) (a : Word) (v : Byte) :
    (s.writeByte a v).regs = s.regs ∧ (s.writeByte a v).pending = s.pending ∧ (s.writeByte a v).cyc = s.cyc ∧
    (s.writeByte a v).halt = s.halt ∧ (s.writeByte a v).hwHalt = s.hwHalt ∧ (s.writeByte a v).seq = s.seq ∧
    (s.writeByte a v).platform = s.platform ∧ (s.writeByte a v).env = s.env ∧
    (s.writeByte a v).periph = s.periph ∧ (s.writeByte a v).draws = s.draws ∧
    (s.writeByte a v).params = s.params := by
  unfold State.writeByte
  split
  · exact ⟨rfl, rfl, rfl, rfl, rfl, rfl, rfl, rfl, rfl, rfl, rfl⟩
  · split
    · unfold State.ioWrite
      split
      · split <;> exact ⟨rfl, rfl, rfl, rfl, rfl, rfl, rfl, rfl, rfl, rfl, rfl⟩
      all_goals exact ⟨rfl, rfl, rfl, rfl, rfl, rfl, rfl, rfl, rfl, rfl, rfl⟩
    · split <;> exact ⟨rfl, rfl, rfl, rfl, rfl, rfl, rfl, rfl, rfl, rfl, rfl⟩

section
variable (s : State) (a : Word) (v : Byte)
@[simp] theorem writeByte_regs : (s.writeByte a v).regs = s.regs := (writeByte_kept s a v).1
@[simp] theorem writeByte_pending : (s.writeByte a v).pending = s.pending := (writeByte_kept s a v).2.1
@[simp] theorem writeByte_cyc : (s.writeByte a v).cyc = s.cyc := (writeByte_kept s a v).2.2.1
@[simp] theorem writeByte_halt : (s.writeByte a v).halt = s.halt := (writeByte_kept s a v).2.2.2.1
@[simp] theorem writeByte_hwHalt : (s.writeByte a v).hwHalt = s.hwHalt := (writeByte_kept s a v).2.2.2.2.1
@[simp] theorem writeByte_seq : (s.writeByte a v).seq = s.seq := (writeByte_kept s a v).2.2.2.2.2.1
@[simp] theorem writeByte_platform : (s.writeByte a v).platform = s.platform := (writeByte_kept s a v).2.2.2.2.2.2.1
@[simp] theorem writeByte_env : (s.writeByte a v).env = s.env := (writeByte_kept s a v).2.2.2.2.2.2.2.1
@[simp] theorem writeByte_periph : (s.writeByte a v).periph = s.periph := (writeByte_kept s a v).2.2.2.2.2.2.2.2.1
@[simp] theorem writeByte_draws : (s.writeByte a v).draws = s.draws := (writeByte_kept s a v).2.2.2.2.2.2.2.2.2.1
@[simp] theorem writeByte_params : (s.writeByte a v).params = s.params := (writeByte_kept s a v).2.2.2.2.2.2.2.2.2.2
end

/-- A write sees neither the registers nor the cycle total nor the soft halt, and leaves those it finds. -/
theorem writeByte_core (s : State) (g : Regs) (c : Nat) (h : Halt) (a : Word) (v : Byte) :
    ({ s with regs := g, cyc := c, halt := h }).writeByte a v =
      { s.writeByte a v with regs := g, cyc := c, halt := h } := by
  unfold State.writeByte
  split
  · rfl
  · split
    · unfold State.ioWrite
      dsimp only
      split
      · split <;> rfl
      all_goals rfl
    · show (match s.storeAddr a with | some p => _ | none => _) = _
      generalize s.storeAddr a = o
      cases o <;> rfl

/-- The same of the registers alone. -/
theorem writeByte_withRegs (s : State) (g : Regs) (a : Word) (v : Byte) :
    ({ s with regs := g }).writeByte a v = { s.writeByte a v with regs := g } := by
  have h := writeByte_core s g s.cyc s.halt a v
  have hc := writeByte_cyc s a v
  have hh := writeByte_halt s a v
  generalize s.writeByte a v = t at h hc hh
  rw [← hc, ← hh] at h
  refine Eq.trans ?_ h
  rw [hc, hh]

/-- The address stored to does not depend on registers, cycle total, soft halt or RAM. -/
theorem storeAddr_core (s : State) (g : Regs) (c : Nat) (h : Halt) (m : Memory) (a : Word) :
    ({ s with regs := g, cyc := c, halt := h, ram := m }).storeAddr a = s.storeAddr a := rfl

/-- An address stored to lies inside the installed RAM. -/
theorem storeAddr_lt (s : State) (a : Word) (p : Nat) (h : s.storeAddr a = some p) : p < s.params.ramSize := by
  have ht : ∀ b, (s.translate b).1 < s.params.ramSize := by
    intro b
    unfold State.translate
    split <;> exact ramAddr_lt _ _
  unfold State.storeAddr at h
  split at h
  · cases h
  · split at h
    · cases h; exact ht a
    · cases h

/-- A logical write keeps the canonical form of RAM. -/
theorem wf_writeByte (s : State) (a : Word) (v : Byte) (hm : s.ram.wf = true) : (s.writeByte a v).ram.wf = true := by
  rw [writeByte_ram]
  split
  · exact wf_ramWrite _ _ _ hm
  · exact hm

/-- A logical write keeps every listed address inside the installed RAM. -/
theorem ramInside_writeByte (s : State) (a : Word) (v : Byte) (hm : s.ramInside = true) :
    (s.writeByte a v).ramInside = true := by
  have h : (s.writeByte a v).ramInside = ({ s with ram := (s.writeByte a v).ram } : State).ramInside := by
    simp only [State.ramInside, writeByte_params]
  rw [h, writeByte_ram]
  split
  · exact ramInside_ramWrite s _ v (storeAddr_lt s a _ ‹_›) hm
  · exact hm

/-- Below the I/O window an address that no ROM hides is stored to at its translation. -/
theorem storeAddr_of_ram (s : State) (a : Word) (h : a.toNat < 0xFF00) (hr : (s.translate a).2 = none) :
    s.storeAddr a = some (s.translate a).1 := by
  unfold State.storeAddr
  rw [if_neg (by omega), if_pos (by simp [hr])]

/-- A logical write leaves every byte of RAM but the one it stores to. -/
theorem ramRead_writeByte_of_ne (s : State) (a : Word) (v : Byte) (p : Nat) (h : s.storeAddr a ≠ some p) :
    ramRead (s.writeByte a v).ram p = ramRead s.ram p := by
  rw [writeByte_ram]
  split
  · rename_i q hq
    exact ramRead_ramWrite_of_ne _ _ _ _ (fun e => h (by rw [hq, e]))
  · rfl

/-- The byte a logical write stores reads back. -/
theorem ramRead_writeByte_self (s : State) (a : Word) (v : Byte) (p : Nat) (h : s.storeAddr a = some p)
    (hm : s.ram.wf = true) : ramRead (s.writeByte a v).ram p = v := by
  rw [writeByte_ram, h]
  exact ramRead_ramWrite_self _ _ _ hm

/-- Reading back through the bus: below the I/O window, where no ROM hides the byte. -/
theorem readByte_writeByte_self (s : State) (a : Word) (v : Byte) (h : a.toNat < 0xFF00)
    (hr : (s.translate a).2 = none) (hm : s.ram.wf = true) : ((s.writeByte a v).readByte a).1 = v := by
  have hp := ramRead_writeByte_self s a v _ (storeAddr_of_ram s a h hr) hm
  rw [writeByte_plain s a v h]
  unfold State.readByte
  rw [if_neg (by omega), if_neg (by omega)]
  show (match (s.translate a).2 with | some l => _ | none => _ : Byte × State).1 = v
  rw [hr]
  exact hp

end Sys2Proof.Machine
end

