-- ==== Sys2Proof/Laws/Operands.lean ====
section
/-! SUPPORT. What resolving and reading an operand can do. -/

namespace Sys2Proof.Machine

open Sys2Proof.Safety

/-! The relations of Sys2Proof/Safety.lean. -/

theorem systemKept_refl (s : State) : SystemKept s s := rfl

theorem systemKept_trans {r s t : State} (h1 : SystemKept r s) (h2 : SystemKept s t) : SystemKept r t := by
  unfold SystemKept at *
  rw [h2, h1]

theorem regsKept_refl (s : State) (l : List RegName) : RegsKept s s l := fun _ _ => rfl

theorem regsKept_trans {r s t : State} {l l' : List RegName} (h1 : RegsKept r s l) (h2 : RegsKept s t l') :
    RegsKept r t (l' ++ l) := by
  intro q hq
  simp only [List.mem_append, not_or] at hq
  rw [h2 q hq.1, h1 q hq.2]

theorem regsKept_of_regs_eq {s t : State} (h : t.regs = s.regs) (l : List RegName) : RegsKept s t l := by
  intro q _
  rw [h]

theorem ramKept_of_ram_eq {s t : State} (h : t.ram = s.ram) (l : List Nat) : RamKept s t l := by
  intro p _
  rw [h]

/-- Read effects are seen through changes of registers, RAM and cycle total. -/
theorem afterReads_core (v q f : Bool) (n : Nat) (s : State) (g : Regs) (c : Nat) (m : Memory) :
    afterReads v q f n { s with regs := g, cyc := c, ram := m } =
      { afterReads v q f n s with regs := g, cyc := c, ram := m } := by
  cases v <;> cases q <;> cases f <;> rfl

theorem readEffect_refl (s : State) : ReadEffect s s := ⟨false, false, false, 0, rfl⟩

theorem readEffect_trans {r s t : State} (h1 : ReadEffect r s) (h2 : ReadEffect s t) : ReadEffect r t := by
  obtain ⟨v, q, f, n, h1⟩ := h1
  obtain ⟨v', q', f', n', h2⟩ := h2
  refine ⟨v || v', q || q', f || f', n + n', ?_⟩
  unfold SystemKept at *
  rw [← afterReads_afterReads]
  generalize afterReads v q f n r = r' at h1 ⊢
  rw [h1, afterReads_core] at h2
  rw [h2]

theorem readEffect_of_systemKept {s t : State} (h : SystemKept s t) : ReadEffect s t := ⟨false, false, false, 0, h⟩

theorem readByte_readEffect (s : State) (a : Word) : ReadEffect s (s.readByte a).2 := by
  obtain ⟨v, q, f, n, h⟩ := readByte_state s a
  exact ⟨v, q, f, n, by rw [h]; rfl⟩

/-! Word reads. -/

@[simp] theorem readWord_regs (s : State) (a : Word) : (s.readWord a).2.regs = s.regs := by simp [State.readWord]
@[simp] theorem readWord_cyc (s : State) (a : Word) : (s.readWord a).2.cyc = s.cyc := by simp [State.readWord]
@[simp] theorem readWord_halt (s : State) (a : Word) : (s.readWord a).2.halt = s.halt := by simp [State.readWord]
@[simp] theorem readWord_ram (s : State) (a : Word) : (s.readWord a).2.ram = s.ram := by simp [State.readWord]
@[simp] theorem readWord_seq (s : State) (a : Word) : (s.readWord a).2.seq = s.seq := by simp [State.readWord]
@[simp] theorem readWord_platform (s : State) (a : Word) : (s.readWord a).2.platform = s.platform := by
  simp [State.readWord]

@[simp] theorem readWord_params (s : State) (a : Word) : (s.readWord a).2.params = s.params := by
  simp [State.readWord]

theorem readWord_readEffect (s : State) (a : Word) : ReadEffect s (s.readWord a).2 :=
  readEffect_trans (readByte_readEffect s a) (readByte_readEffect _ _)

/-- A word read sees neither the registers nor the cycle total nor the soft halt, and leaves those it finds. -/
theorem readWord_core (s : State) (g : Regs) (c : Nat) (h : Halt) (a : Word) :
    ({ s with regs := g, cyc := c, halt := h }).readWord a =
      ((s.readWord a).1, { (s.readWord a).2 with regs := g, cyc := c, halt := h }) := by
  simp only [State.readWord, readByte_core]

/-- A word of the vector window is two bytes of the internal ROM, without effect. -/
theorem readWord_vector (s : State) (a : Word) (h : 0xFFE0 ≤ a.toNat) (h' : a.toNat < 0xFFFF) :
    s.readWord a = (joinBytes (s.intRom (a.toNat - 0x8000)) (s.intRom (a.toNat - 0x8000 + 1)), s) := by
  have e : (a + 1).toNat = a.toNat + 1 := by
    rw [BitVec.toNat_add]
    have : (1 : Word).toNat = 1 := rfl
    omega
  simp only [State.readWord, readByte_vector s a h, readByte_vector s (a + 1) (by omega), e]
  rw [show a.toNat + 1 - 0x8000 = a.toNat - 0x8000 + 1 by omega]

/-! Resolution. -/

/-- The registers after a sub-mode is resolved. -/
def resolvedRegs (s : State) (lea : Option IdxReg) (m : IdxMode) : Regs :=
  { s.regs with
    x := baseAfter s lea m .x, y := baseAfter s lea m .y, u := baseAfter s lea m .u, s := baseAfter s lea m .s }

theorem ofInt_add_ofNat (x : Word) (k : Nat) : BitVec.ofInt 16 (x.toNat + k) = x + BitVec.ofNat 16 k := by
  apply BitVec.eq_of_toNat_eq
  simp [BitVec.toNat_ofInt, BitVec.toNat_add]
  omega

theorem ofInt_sub_ofNat (x : Word) (k : Nat) (hk : k < 65536) :
    BitVec.ofInt 16 (x.toNat - k) = x - BitVec.ofNat 16 k := by
  apply BitVec.eq_of_toNat_eq
  simp [BitVec.toNat_ofInt, BitVec.toNat_sub]
  omega

theorem ofInt_toNat_add_toInt {w : Nat} (x : Word) (n : BitVec w) :
    BitVec.ofInt 16 (x.toNat + n.toInt) = x + n.signExtend 16 := by
  rw [BitVec.ofInt_add, BitVec.ofInt_natCast, BitVec.ofNat_toNat, BitVec.setWidth_eq]
  rfl

theorem ofInt_toNat_add_toInt16 (x n : Word) : BitVec.ofInt 16 (x.toNat + n.toInt) = x + n := by
  rw [ofInt_toNat_add_toInt, BitVec.signExtend_eq]

/-- The address and the state of a resolved sub-mode. -/
theorem resolveMode_eq (s : State) (lea : Option IdxReg) (m : IdxMode) :
    s.resolveMode lea m = (BitVec.ofInt 16 (indexedSum s m), { s with regs := resolvedRegs s lea m }) := by
  have e1 (x : Word) : BitVec.ofInt 16 (x.toNat + 1) = x + 1 := ofInt_add_ofNat x 1
  have e2 (x : Word) : BitVec.ofInt 16 (x.toNat + 2) = x + 2 := ofInt_add_ofNat x 2
  have d1 (x : Word) : BitVec.ofInt 16 (x.toNat - 1) = x - 1 := ofInt_sub_ofNat x 1 (by omega)
  have d2 (x : Word) : BitVec.ofInt 16 (x.toNat - 2) = x - 2 := ofInt_sub_ofNat x 2 (by omega)
  have d1' (x : Word) : BitVec.ofInt 16 (x.toNat + -1) = x - 1 := d1 x
  have d2' (x : Word) : BitVec.ofInt 16 (x.toNat + -2) = x - 2 := d2 x
  have z (x : Word) : BitVec.ofInt 16 x.toNat = x := by simp
  cases m <;>
    simp only [State.resolveMode, indexedSum, resolvedRegs, baseAfter, autoStep, ofInt_toNat_add_toInt,
      BitVec.signExtend_eq, e1, e2, d1, d2, d1', d2', z, sext5, sext8] <;>
    first
      | rfl
      | (rename_i r
         cases r <;> rcases lea with _ | l <;> (try cases l) <;> rfl)

/-- Resolution writes back at most the register the sub-mode advances. -/
theorem resolvedRegs_kept (s : State) (lea : Option IdxReg) (m : IdxMode) (q : RegName) (hq : q ∉ autoOfMode m) :
    readReg (resolvedRegs s lea m) q = readReg s.regs q := by
  cases m <;> (try rename_i r; cases r) <;>
    cases q <;> first
      | rfl
      | exact absurd (List.mem_singleton.mpr rfl) hq

@[simp] theorem resolvedRegs_cc (s : State) (lea : Option IdxReg) (m : IdxMode) :
    (resolvedRegs s lea m).cc = s.regs.cc := rfl

/-- What evaluating an operand may do: `t` is the state after. -/
structure OperandEffect (s t : State) (auto : List RegName) (n : Nat) : Prop where
  registers : RegsKept s t auto
  cc : t.regs.cc = s.regs.cc
  ram : t.ram = s.ram
  reads : ReadEffect s t
  cycles : t.cyc = s.cyc + n
  halt : t.halt = s.halt

theorem readEffect_of_regs_cyc (s : State) (g : Regs) (c : Nat) : ReadEffect s { s with regs := g, cyc := c } :=
  readEffect_of_systemKept rfl

theorem resolveIndexed_eq (s : State) (lea : Option IdxReg) (ix : Indexed) :
    s.resolveIndexed lea ix =
      let t : State := { s with regs := resolvedRegs s lea ix.mode, cyc := s.cyc + indexedDelta ix }
      let a := BitVec.ofInt 16 (indexedSum s ix.mode)
      if ix.indirect then t.readWord a else (a, t) := by
  unfold State.resolveIndexed
  rw [resolveMode_eq]
  rfl

theorem resolveIndexed_effect (s : State) (lea : Option IdxReg) (ix : Indexed) :
    OperandEffect s (s.resolveIndexed lea ix).2 (autoOfMode ix.mode) (indexedDelta ix) := by
  have hq : ∀ q, q ∉ autoOfMode ix.mode → readReg (resolvedRegs s lea ix.mode) q = readReg s.regs q :=
    resolvedRegs_kept s lea ix.mode
  rw [resolveIndexed_eq]
  dsimp only
  split
  · refine ⟨?_, ?_, ?_, ?_, ?_, ?_⟩
    · intro q h; rw [readWord_regs]; exact hq q h
    · rw [readWord_regs]; rfl
    · rw [readWord_ram]
    · exact readEffect_trans (readEffect_of_regs_cyc s _ _) (readWord_readEffect _ _)
    · rw [readWord_cyc]
    · rw [readWord_halt]
  · exact ⟨hq, rfl, rfl, readEffect_of_regs_cyc s _ _, rfl, rfl⟩

theorem ea_effect (s : State) (m : MemOp) : OperandEffect s (s.ea m).2 (autoOf m) (memCycles m) := by
  cases m with
  | dir d => exact ⟨fun _ _ => rfl, rfl, rfl, readEffect_refl s, rfl, rfl⟩
  | idx ix => exact resolveIndexed_effect s none ix
  | ext w => exact ⟨fun _ _ => rfl, rfl, rfl, readEffect_refl s, rfl, rfl⟩

theorem operandEffect_readByte {s t : State} {l : List RegName} {n : Nat} (h : OperandEffect s t l n) (a : Word) :
    OperandEffect s (t.readByte a).2 l n :=
  ⟨fun q hq => by rw [readByte_regs]; exact h.registers q hq, by rw [readByte_regs]; exact h.cc,
    by rw [readByte_ram]; exact h.ram, readEffect_trans h.reads (readByte_readEffect _ _),
    by rw [readByte_cyc]; exact h.cycles, by rw [readByte_halt]; exact h.halt⟩

theorem operand8_effect (s : State) (o : Src8) : OperandEffect s (s.operand8 o).2 (auto8 o) (cycles8 o) := by
  cases o with
  | imm v => exact ⟨fun _ _ => rfl, rfl, rfl, readEffect_refl s, rfl, rfl⟩
  | mem m => exact operandEffect_readByte (ea_effect s m) _

theorem operand16_effect (s : State) (o : Src16) : OperandEffect s (s.operand16 o).2 (auto16 o) (cycles16 o) := by
  cases o with
  | imm v => exact ⟨fun _ _ => rfl, rfl, rfl, readEffect_refl s, rfl, rfl⟩
  | mem m => exact operandEffect_readByte (operandEffect_readByte (ea_effect s m) _) _

/-- A change of registers after an operand is read. -/
theorem operandFrame_setRegs {s r : State} {auto written : List RegName} {n : Nat} (h : OperandEffect s r auto n)
    (t : State) (ht : t = { r with regs := t.regs })
    (hg : ∀ q, q ∉ written → readReg t.regs q = readReg r.regs q) : OperandFrame s r t auto written := by
  generalize t.regs = g at ht hg
  subst ht
  refine ⟨hg, ?_, ramKept_of_ram_eq h.ram [], rfl, readEffect_trans h.reads (readEffect_of_systemKept rfl), rfl⟩
  intro q hq
  simp only [List.mem_append, not_or] at hq
  exact (hg q hq.1).trans (h.registers q hq.2)

/-! Bytes and words. -/

theorem toNat_joinBytes (hi lo : Byte) : (joinBytes hi lo).toNat = hi.toNat * 256 + lo.toNat := by
  show (hi ++ lo : BitVec (8 + 8)).toNat = _
  rw [BitVec.toNat_append, Nat.shiftLeft_eq, Nat.mul_comm, ← Nat.two_pow_add_eq_or_of_lt lo.isLt]

theorem toNat_hiByte (w : Word) : (hiByte w).toNat = w.toNat / 256 := by
  have h := w.isLt
  simp only [hiByte, BitVec.extractLsb'_toNat, Nat.shiftRight_eq_div_pow]
  omega

theorem toNat_loByte (w : Word) : (loByte w).toNat = w.toNat % 256 := by
  simp [loByte, BitVec.extractLsb'_toNat]

/-- A word is its high byte and its low byte. -/
@[simp] theorem joinBytes_hiByte_loByte (w : Word) : joinBytes (hiByte w) (loByte w) = w := by
  apply BitVec.eq_of_toNat_eq
  rw [toNat_joinBytes, toNat_hiByte, toNat_loByte]
  omega

@[simp] theorem hiByte_joinBytes (hi lo : Byte) : hiByte (joinBytes hi lo) = hi := by
  apply BitVec.eq_of_toNat_eq
  have := lo.isLt
  rw [toNat_hiByte, toNat_joinBytes]
  omega

@[simp] theorem loByte_joinBytes (hi lo : Byte) : loByte (joinBytes hi lo) = lo := by
  apply BitVec.eq_of_toNat_eq
  have := lo.isLt
  rw [toNat_loByte, toNat_joinBytes]
  omega

/-! Flags. -/

@[simp] theorem ccGet_ccPut_self (cc : Byte) (k : Flag) (b : Bool) : ccGet (ccPut cc k b) k = b := by
  unfold ccGet ccPut putBit
  cases b <;> cases k <;> simp [flagBit]

theorem ccGet_ccPut_of_ne (cc : Byte) (j k : Flag) (b : Bool) (h : j ≠ k) : ccGet (ccPut cc k b) j = ccGet cc j := by
  unfold ccGet ccPut putBit
  cases b <;> cases k <;> cases j <;> first | exact absurd rfl h | simp [flagBit]

/-- A flag after an ALU function's flag writes. -/
theorem ccGet_applyFlags (fl : FlagWrites) (cc : Byte) (k : Flag) :
    ccGet (applyFlags fl cc) k =
      match k with
      | .h => fl.h.getD (ccGet cc .h)
      | .n => fl.n.getD (ccGet cc .n)
      | .z => fl.z.getD (ccGet cc .z)
      | .v => fl.v.getD (ccGet cc .v)
      | .c => fl.c.getD (ccGet cc .c)
      | .i => ccGet cc .i
      | .f => ccGet cc .f
      | .e => ccGet cc .e := by
  have step (c : Byte) (j : Flag) (o : Option Bool) :
      ccGet (ccPutIf c j o) k = if k = j then o.getD (ccGet c k) else ccGet c k := by
    cases o with
    | none => simp [ccPutIf]
    | some b =>
      by_cases hk : k = j
      · subst hk; simp [ccPutIf]
      · simp [ccPutIf, hk, ccGet_ccPut_of_ne _ _ _ _ hk]
  unfold applyFlags
  simp only [step]
  cases k <;> simp

@[simp] theorem flag_putFlags (s : State) (fl : FlagWrites) (k : Flag) :
    (s.putFlags fl).flag k = ccGet (applyFlags fl s.regs.cc) k := rfl

/-- The flags after an ALU function's flag writes, over a CC that an operand left alone. -/
theorem flagsSet_applyFlags {s t : State} (fl : FlagWrites) (h : t.regs.cc = applyFlags fl s.regs.cc)
    (l : List (Flag × Bool))
    (hl : ∀ cc, (∀ p ∈ l, ccGet (applyFlags fl cc) p.1 = p.2) ∧
      ∀ k, k ∉ l.map Prod.fst → ccGet (applyFlags fl cc) k = ccGet cc k) : FlagsSet s t l := by
  obtain ⟨h1, h2⟩ := hl s.regs.cc
  refine ⟨fun p hp => ?_, fun k hk => ?_⟩
  · unfold State.flag; rw [h]; exact h1 p hp
  · unfold State.flag; rw [h]; exact h2 k hk

theorem flag_of_cc {s t : State} (h : t.regs.cc = s.regs.cc) (k : Flag) : t.flag k = s.flag k := by
  unfold State.flag
  rw [h]

end Sys2Proof.Machine
end

