-- ==== Sys2Proof/Laws/Decode.lean ====
section
/-! SUPPORT. The decoder on an encoded indexed operand, and on enough bytes. -/

namespace Sys2Proof

/-- The fields of a postbyte `1 RR I MMMM`, read back. -/
theorem postbyte_fields (rr : BitVec 2) (ind : Bool) (m : BitVec 4) :
    (postbyte rr ind m).extractLsb' 5 2 = rr ∧ (postbyte rr ind m).getLsbD 4 = ind ∧
      (postbyte rr ind m).getLsbD 7 = true ∧ (postbyte rr ind m).extractLsb' 0 4 = m := by
  revert rr ind m; decide

/-- The fields of a postbyte `0 RR nnnnn`, read back. -/
theorem offset5_fields (rr : BitVec 2) (n : BitVec 5) :
    ((0#1 ++ rr ++ n : BitVec 8).extractLsb' 5 2) = rr ∧ (0#1 ++ rr ++ n : BitVec 8).getLsbD 7 = false ∧
      ((0#1 ++ rr ++ n : BitVec 8).extractLsb' 0 5) = n := by
  revert rr n; decide

theorem idxRegOf_idxRegCode (r : IdxReg) : idxRegOf (idxRegCode r) = r := by
  cases r <;> rfl

/-- The indexed operand's bytes decode to the operand they were written from. -/
theorem decodeIndexed_encodeIndexed (ix : Indexed) (rest : List Byte) (h : ix.wf = true) :
    decodeIndexed (encodeIndexed ix ++ rest) = .ok ix rest := by
  obtain ⟨m, ind⟩ := ix
  cases m with
  | off5 r n =>
    obtain ⟨h1, h2, h3⟩ := offset5_fields (idxRegCode r) n
    have hi : ind = false := by simpa [Indexed.wf] using h
    subst hi
    simp only [encodeIndexed, List.cons_append, List.nil_append, decodeIndexed, h1, h2, h3, idxRegOf_idxRegCode, if_true]
  | ext n =>
    obtain ⟨h1, h2, h3, h4⟩ := postbyte_fields 0 ind 0xF
    have hi : ind = true := by simpa [Indexed.wf] using h
    subst hi
    simp only [encodeIndexed, wordBytes, List.cons_append, List.nil_append, decodeIndexed, h1, h2, h3, h4]
    simp [withWord, Sys2Proof.Machine.joinBytes_hiByte_loByte]
  | pcr8 n =>
    obtain ⟨h1, h2, h3, h4⟩ := postbyte_fields 0 ind 0xC
    simp only [encodeIndexed, List.cons_append, List.nil_append, decodeIndexed, h1, h2, h3, h4]
    simp [withByte]
  | pcr16 n =>
    obtain ⟨h1, h2, h3, h4⟩ := postbyte_fields 0 ind 0xD
    simp only [encodeIndexed, wordBytes, List.cons_append, List.nil_append, decodeIndexed, h1, h2, h3, h4]
    simp [withWord, Sys2Proof.Machine.joinBytes_hiByte_loByte]
  | off8 r n =>
    obtain ⟨h1, h2, h3, h4⟩ := postbyte_fields (idxRegCode r) ind 0x8
    simp only [encodeIndexed, List.cons_append, List.nil_append, decodeIndexed, h1, h2, h3, h4]
    simp [withByte, idxRegOf_idxRegCode]
  | off16 r n =>
    obtain ⟨h1, h2, h3, h4⟩ := postbyte_fields (idxRegCode r) ind 0x9
    simp only [encodeIndexed, wordBytes, List.cons_append, List.nil_append, decodeIndexed, h1, h2, h3, h4]
    simp [withWord, Sys2Proof.Machine.joinBytes_hiByte_loByte, idxRegOf_idxRegCode]
  | postInc1 r =>
    obtain ⟨h1, h2, h3, h4⟩ := postbyte_fields (idxRegCode r) ind 0x0
    simp only [encodeIndexed, List.cons_append, List.nil_append, decodeIndexed, h1, h2, h3, h4]
    simp [idxRegOf_idxRegCode]
  | postInc2 r =>
    obtain ⟨h1, h2, h3, h4⟩ := postbyte_fields (idxRegCode r) ind 0x1
    simp only [encodeIndexed, List.cons_append, List.nil_append, decodeIndexed, h1, h2, h3, h4]
    simp [idxRegOf_idxRegCode]
  | preDec1 r =>
    obtain ⟨h1, h2, h3, h4⟩ := postbyte_fields (idxRegCode r) ind 0x2
    simp only [encodeIndexed, List.cons_append, List.nil_append, decodeIndexed, h1, h2, h3, h4]
    simp [idxRegOf_idxRegCode]
  | preDec2 r =>
    obtain ⟨h1, h2, h3, h4⟩ := postbyte_fields (idxRegCode r) ind 0x3
    simp only [encodeIndexed, List.cons_append, List.nil_append, decodeIndexed, h1, h2, h3, h4]
    simp [idxRegOf_idxRegCode]
  | zero r =>
    obtain ⟨h1, h2, h3, h4⟩ := postbyte_fields (idxRegCode r) ind 0x4
    simp only [encodeIndexed, List.cons_append, List.nil_append, decodeIndexed, h1, h2, h3, h4]
    simp [idxRegOf_idxRegCode]
  | accB r =>
    obtain ⟨h1, h2, h3, h4⟩ := postbyte_fields (idxRegCode r) ind 0x5
    simp only [encodeIndexed, List.cons_append, List.nil_append, decodeIndexed, h1, h2, h3, h4]
    simp [idxRegOf_idxRegCode]
  | accA r =>
    obtain ⟨h1, h2, h3, h4⟩ := postbyte_fields (idxRegCode r) ind 0x6
    simp only [encodeIndexed, List.cons_append, List.nil_append, decodeIndexed, h1, h2, h3, h4]
    simp [idxRegOf_idxRegCode]
  | accD r =>
    obtain ⟨h1, h2, h3, h4⟩ := postbyte_fields (idxRegCode r) ind 0xB
    simp only [encodeIndexed, List.cons_append, List.nil_append, decodeIndexed, h1, h2, h3, h4]
    simp [idxRegOf_idxRegCode]

/-- An indexed operand of three bytes is never too short. -/
theorem decodeIndexed_three (a b c : Byte) (rest : List Byte) : decodeIndexed (a :: b :: c :: rest) ≠ .truncated := by
  unfold decodeIndexed
  dsimp only
  split
  · simp
  · split <;> simp [withByte, withWord]
    split <;> simp

/-- An operand of three bytes is never too short. -/
theorem decodeOperand_three (e : Entry) (f : Bool) (a b c : Byte) (rest : List Byte) :
    decodeOperand e f (a :: b :: c :: rest) ≠ .truncated := by
  cases e with
  | idx g =>
    have h := decodeIndexed_three a b c rest
    unfold decodeOperand
    dsimp only
    cases hd : decodeIndexed (a :: b :: c :: rest) with
    | truncated => exact absurd hd h
    | _ => simp
  | _ => simp [decodeOperand]

/-- Five bytes are never too few (log 18). -/
theorem decode_five (a b c d e : Byte) (rest : List Byte) : decode (a :: b :: c :: d :: e :: rest) ≠ .truncated := by
  have h1 : ∀ (op : Byte) (f : Bool) (x y z : Byte) (l : List Byte), decodePage1 op f (x :: y :: z :: l) ≠ .truncated := by
    intro op f x y z l
    unfold decodePage1
    split
    · exact decodeOperand_three _ _ _ _ _ _
    · simp
  have h2 : ∀ page, decodePaged page (b :: c :: d :: e :: rest) ≠ .truncated := by
    intro page
    unfold decodePaged
    dsimp only
    split
    · exact decodeOperand_three _ _ _ _ _ _
    · exact h1 _ _ _ _ _ _
  unfold decode
  dsimp only
  split
  · exact h2 _
  · split
    · exact h2 _
    · exact h1 _ _ _ _ _ _

end Sys2Proof
end

