-- ==== Sys2Proof/Laws/Stack.lean ====
section
/-! SUPPORT. What pushing, pulling, taking an exception and returning from one can do. -/

namespace Sys2Proof.Machine

open Sys2Proof.Safety

/-- The registers with the pointer of a stack replaced. -/
def withSp (k : Stack) (g : Regs) (v : Word) : Regs :=
  match k with
  | .s => { g with s := v }
  | .u => { g with u := v }

theorem setSp_eq (s : State) (k : Stack) (v : Word) : s.setSp k v = { s with regs := withSp k s.regs v } := by
  cases k <;> rfl

theorem sp_of_regs {s t : State} (k : Stack) (h : t.regs = s.regs) : t.sp k = s.sp k := by
  cases k <;> simp [State.sp, h]

@[simp] theorem withSp_withSp (k : Stack) (g : Regs) (v w : Word) : withSp k (withSp k g v) w = withSp k g w := by
  cases k <;> rfl

@[simp] theorem push8_regs (s : State) (k : Stack) (v : Byte) : (s.push8 k v).regs = withSp k s.regs (s.sp k - 1) := by
  unfold State.push8
  rw [writeByte_regs, setSp_eq]

/-- The bus part of a push is a write; the pointer is one less. -/
theorem push8_eq (s : State) (k : Stack) (v : Byte) :
    s.push8 k v = { s.writeByte (s.sp k - 1) v with regs := withSp k s.regs (s.sp k - 1) } := by
  unfold State.push8
  rw [setSp_eq]
  exact writeByte_withRegs s _ _ v

@[simp] theorem push8_cyc (s : State) (k : Stack) (v : Byte) : (s.push8 k v).cyc = s.cyc := by
  rw [push8_eq]; exact writeByte_cyc s _ v
@[simp] theorem push8_halt (s : State) (k : Stack) (v : Byte) : (s.push8 k v).halt = s.halt := by
  rw [push8_eq]; exact writeByte_halt s _ v
@[simp] theorem push8_platform (s : State) (k : Stack) (v : Byte) : (s.push8 k v).platform = s.platform := by
  rw [push8_eq]; exact writeByte_platform s _ v
@[simp] theorem push8_params (s : State) (k : Stack) (v : Byte) : (s.push8 k v).params = s.params := by
  rw [push8_eq]; exact writeByte_params s _ v
@[simp] theorem push8_seq (s : State) (k : Stack) (v : Byte) : (s.push8 k v).seq = s.seq := by
  rw [push8_eq]; exact writeByte_seq s _ v
@[simp] theorem push8_pending (s : State) (k : Stack) (v : Byte) : (s.push8 k v).pending = s.pending := by
  rw [push8_eq]; exact writeByte_pending s _ v
@[simp] theorem push8_hwHalt (s : State) (k : Stack) (v : Byte) : (s.push8 k v).hwHalt = s.hwHalt := by
  rw [push8_eq]; exact writeByte_hwHalt s _ v
@[simp] theorem push8_env (s : State) (k : Stack) (v : Byte) : (s.push8 k v).env = s.env := by
  rw [push8_eq]; exact writeByte_env s _ v
@[simp] theorem push8_periph (s : State) (k : Stack) (v : Byte) : (s.push8 k v).periph = s.periph := by
  rw [push8_eq]; exact writeByte_periph s _ v
@[simp] theorem push8_draws (s : State) (k : Stack) (v : Byte) : (s.push8 k v).draws = s.draws := by
  rw [push8_eq]; exact writeByte_draws s _ v

@[simp] theorem sp_withSp (s : State) (k : Stack) (v : Word) (h : s.regs = withSp k g v) : s.sp k = v := by
  cases k <;> simp [State.sp, h, withSp]

theorem pushAll_append (k : Stack) (s : State) (l l' : List Byte) :
    pushAll k s (l ++ l') = pushAll k (pushAll k s l) l' := by
  simp [pushAll, List.foldl_append]

/-- Pushing bytes moves the pointer down by their number and changes no other register. -/
theorem pushAll_regs (k : Stack) (s : State) (l : List Byte) :
    (pushAll k s l).regs = withSp k s.regs (s.sp k - BitVec.ofNat 16 l.length) := by
  induction l generalizing s with
  | nil => cases k <;> simp [pushAll, withSp, State.sp]
  | cons v rest ih =>
    show (pushAll k (s.push8 k v) rest).regs = _
    rw [ih, push8_regs, withSp_withSp, sp_withSp _ _ _ (push8_regs s k v)]
    congr 1
    simp only [List.length_cons, BitVec.ofNat_add]
    rw [BitVec.sub_sub, BitVec.add_comm]
    rfl

/-- What pushing bytes leaves alone. -/
theorem pushAll_kept (k : Stack) (s : State) (l : List Byte) :
    (pushAll k s l).cyc = s.cyc ∧ (pushAll k s l).halt = s.halt ∧ (pushAll k s l).platform = s.platform ∧
    (pushAll k s l).seq = s.seq ∧ (pushAll k s l).pending = s.pending ∧ (pushAll k s l).hwHalt = s.hwHalt ∧
    (pushAll k s l).env = s.env ∧ (pushAll k s l).periph = s.periph ∧ (pushAll k s l).draws = s.draws ∧
    (pushAll k s l).params = s.params := by
  induction l generalizing s with
  | nil => exact ⟨rfl, rfl, rfl, rfl, rfl, rfl, rfl, rfl, rfl, rfl⟩
  | cons v rest ih =>
    have h := ih (s.push8 k v)
    simp only [push8_cyc, push8_halt, push8_platform, push8_seq, push8_pending, push8_hwHalt, push8_env, push8_periph,
      push8_draws, push8_params] at h
    exact h

/-- Pushing bytes stores to the addresses of `pushTargets` only. -/
theorem pushAll_ramKept (k : Stack) (s : State) (l : List Byte) : RamKept s (pushAll k s l) (pushTargets k s l) := by
  induction l generalizing s with
  | nil => exact fun _ _ => rfl
  | cons v rest ih =>
    intro p hp
    simp only [pushTargets, List.mem_append, not_or, Option.mem_toList] at hp
    have h := ih (s.push8 k v) p hp.2
    show ramRead (pushAll k (s.push8 k v) rest).ram p = _
    rw [h]
    unfold State.push8
    rw [ramRead_writeByte_of_ne _ _ _ _ hp.1, setSp_eq]

/-- Pushing bytes keeps the canonical form of RAM. -/
theorem wf_pushAll (k : Stack) (s : State) (l : List Byte) (h : s.ram.wf = true) : (pushAll k s l).ram.wf = true := by
  induction l generalizing s with
  | nil => exact h
  | cons v rest ih =>
    refine ih (s.push8 k v) ?_
    rw [push8_eq]
    exact wf_writeByte s _ v h

/-- Pushing bytes keeps every listed address inside the installed RAM. -/
theorem ramInside_pushAll (k : Stack) (s : State) (l : List Byte) (h : s.ramInside = true) :
    (pushAll k s l).ramInside = true := by
  induction l generalizing s with
  | nil => exact h
  | cons v rest ih =>
    refine ih (s.push8 k v) ?_
    rw [push8_eq]
    exact ramInside_writeByte s _ v h

/-- The same registers but for CC: the pointers are the same. -/
theorem push8_setCC (k : Stack) (s : State) (c v : Byte) : (s.setCC c).push8 k v = (s.push8 k v).setCC c := by
  rw [push8_eq, push8_eq]
  have h : (s.setCC c).writeByte (s.sp k - 1) v = { s.writeByte (s.sp k - 1) v with regs := { s.regs with cc := c } } :=
    writeByte_withRegs s _ _ v
  have e : (s.setCC c).sp k = s.sp k := by cases k <;> rfl
  rw [e, h]
  cases k <;> rfl

theorem pushAll_setCC (k : Stack) (s : State) (c : Byte) (l : List Byte) :
    pushAll k (s.setCC c) l = (pushAll k s l).setCC c := by
  induction l generalizing s with
  | nil => rfl
  | cons v rest ih =>
    show pushAll k ((s.setCC c).push8 k v) rest = (pushAll k (s.push8 k v) rest).setCC c
    rw [push8_setCC, ih]

theorem push16_eq (s : State) (k : Stack) (w : Word) : s.push16 k w = pushAll k s [loByte w, hiByte w] := rfl

theorem whenBit_push8 (mask : Byte) (i : Nat) (k : Stack) (s : State) (f : Regs → Byte) :
    whenBit mask i (fun t => t.push8 k (f t.regs)) s = pushAll k s (if mask.getLsbD i then [f s.regs] else []) := by
  unfold whenBit
  split <;> rfl

theorem whenBit_push16 (mask : Byte) (i : Nat) (k : Stack) (s : State) (f : Regs → Word) :
    whenBit mask i (fun t => t.push16 k (f t.regs)) s =
      pushAll k s (if mask.getLsbD i then [loByte (f s.regs), hiByte (f s.regs)] else []) := by
  unfold whenBit
  split <;> rfl

/-- The other pointer of a stack, from the registers. -/
def otherSp (k : Stack) (g : Regs) : Word :=
  match k with
  | .s => g.u
  | .u => g.s

/-- `PushRegs` pushes the bytes of `stackImage`, taken from the registers before the first push. -/
theorem pushRegs_eq (k : Stack) (mask : Byte) (s : State) : s.pushRegs k mask = pushAll k s (stackImage k mask s.regs) := by
  have o : (fun t : State => t.push16 k (t.sp (otherStack k))) = fun t => t.push16 k (otherSp k t.regs) := by
    cases k <;> rfl
  unfold State.pushRegs
  rw [o]
  rw [whenBit_push16 mask 7 k s (fun g => g.pc), whenBit_push16 mask 6 k _ (otherSp k),
    whenBit_push16 mask 5 k _ (fun g => g.y), whenBit_push16 mask 4 k _ (fun g => g.x),
    whenBit_push8 mask 3 k _ (fun g => g.dp), whenBit_push8 mask 2 k _ (fun g => g.b),
    whenBit_push8 mask 1 k _ (fun g => g.a), whenBit_push8 mask 0 k _ (fun g => g.cc)]
  simp only [← pushAll_append, pushAll_regs]
  cases k <;> rfl

/-- The bytes a mask pushes are as many as the protocol says. -/
theorem stackImage_length (k : Stack) (mask : Byte) (g : Regs) : (stackImage k mask g).length = stackBytes mask := by
  unfold stackImage stackBytes
  simp only [List.length_append]
  cases mask.getLsbD 0 <;> cases mask.getLsbD 1 <;> cases mask.getLsbD 2 <;> cases mask.getLsbD 3 <;>
    cases mask.getLsbD 4 <;> cases mask.getLsbD 5 <;> cases mask.getLsbD 6 <;> cases mask.getLsbD 7 <;> rfl

/-- What pushing bytes leaves, said once. -/
theorem pushAll_effect (k : Stack) (s : State) (l : List Byte) : PushEffect k s (pushAll k s l) l := by
  refine ⟨sp_withSp _ _ _ (pushAll_regs k s l), ?_, pushAll_ramKept k s l, rfl⟩
  intro q hq
  rw [pushAll_regs]
  cases k <;> cases q <;> first | rfl | exact absurd (List.mem_singleton.mpr rfl) hq

/-! Pulls. -/

theorem pull8_eq (s : State) (k : Stack) :
    s.pull8 k =
      ((s.readByte (s.sp k)).1, { (s.readByte (s.sp k)).2 with regs := withSp k s.regs (s.sp k + 1) }) := by
  unfold State.pull8
  dsimp only
  rw [setSp_eq, readByte_regs, sp_of_regs k (readByte_regs s (s.sp k))]

theorem pull8_readEffect (s : State) (k : Stack) : ReadEffect s (s.pull8 k).2 := by
  rw [pull8_eq]
  exact readEffect_trans (readByte_readEffect _ _) (readEffect_of_systemKept rfl)

/-- What pulling `n` bytes leaves, said once. -/
theorem pullSeq_effect (k : Stack) (s : State) (n : Nat) :
    (pullSeq k s n).2.regs = withSp k s.regs (s.sp k + BitVec.ofNat 16 n) ∧ (pullSeq k s n).2.ram = s.ram ∧
    (pullSeq k s n).2.cyc = s.cyc ∧ ReadEffect s (pullSeq k s n).2 ∧ (pullSeq k s n).1.length = n := by
  induction n generalizing s with
  | zero => exact ⟨by cases k <;> simp [pullSeq, withSp, State.sp], rfl, rfl, readEffect_refl s, rfl⟩
  | succ n ih =>
    obtain ⟨h1, h2, h3, h4, h5⟩ := ih (s.pull8 k).2
    have hr : (s.pull8 k).2.regs = withSp k s.regs (s.sp k + 1) := by rw [pull8_eq]
    refine ⟨?_, ?_, ?_, readEffect_trans (pull8_readEffect s k) h4, ?_⟩
    · show (pullSeq k (s.pull8 k).2 n).2.regs = _
      rw [h1, hr, withSp_withSp, sp_withSp _ _ _ hr]
      congr 1
      rw [BitVec.ofNat_add, BitVec.add_assoc, BitVec.add_comm (1 : Word)]
      rfl
    · show (pullSeq k (s.pull8 k).2 n).2.ram = _
      rw [h2, pull8_eq]
      exact readByte_ram s _
    · show (pullSeq k (s.pull8 k).2 n).2.cyc = _
      rw [h3, pull8_eq]
      exact readByte_cyc s _
    · show (pullSeq k (s.pull8 k).2 n).1.length + 1 = n + 1
      rw [h5]

theorem pullSeq_succ (k : Stack) (s : State) (n : Nat) :
    pullSeq k s (n + 1) = ((s.pull8 k).1 :: (pullSeq k (s.pull8 k).2 n).1, (pullSeq k (s.pull8 k).2 n).2) := rfl

/-- Pulling `m + n` bytes is pulling `m` and then `n`. -/
theorem pullSeq_add (k : Stack) (s : State) (m n : Nat) :
    pullSeq k s (m + n) =
      ((pullSeq k s m).1 ++ (pullSeq k (pullSeq k s m).2 n).1, (pullSeq k (pullSeq k s m).2 n).2) := by
  induction m generalizing s with
  | zero => simp [pullSeq]
  | succ m ih =>
    rw [Nat.add_right_comm, pullSeq_succ, ih, pullSeq_succ]
    rfl

/-- Pulling sees no register but the pointer, and leaves the others. -/
theorem pullSeq_withRegs (k : Stack) (s : State) (g : Regs) (n : Nat) (h : ({ s with regs := g } : State).sp k = s.sp k) :
    pullSeq k { s with regs := g } n =
      ((pullSeq k s n).1,
        { (pullSeq k s n).2 with regs := withSp k g (s.sp k + BitVec.ofNat 16 n) }) := by
  induction n generalizing s g with
  | zero =>
    have : withSp k g (s.sp k) = g := by rw [← h]; cases k <;> rfl
    simp [pullSeq, this]
  | succ n ih =>
    have hp : State.pull8 { s with regs := g } k =
        ((s.pull8 k).1, { (s.pull8 k).2 with regs := withSp k g (s.sp k + 1) }) := by
      rw [pull8_eq, pull8_eq, h, readByte_withRegs]
    have hsp : ({ (s.pull8 k).2 with regs := withSp k g (s.sp k + 1) } : State).sp k = (s.pull8 k).2.sp k := by
      have hr : (s.pull8 k).2.regs = withSp k s.regs (s.sp k + 1) := by rw [pull8_eq]
      rw [sp_withSp (s.pull8 k).2 k _ hr]
      cases k <;> rfl
    have hsp2 : (s.pull8 k).2.sp k = s.sp k + 1 := by
      have hr : (s.pull8 k).2.regs = withSp k s.regs (s.sp k + 1) := by rw [pull8_eq]
      exact sp_withSp (s.pull8 k).2 k _ hr
    rw [pullSeq_succ, pullSeq_succ, hp]
    dsimp only
    rw [ih (s.pull8 k).2 _ hsp, withSp_withSp, hsp2]
    have hw : s.sp k + 1 + BitVec.ofNat 16 n = s.sp k + BitVec.ofNat 16 (n + 1) := by
      rw [BitVec.ofNat_add, BitVec.add_assoc, BitVec.add_comm (1 : Word)]
      rfl
    rw [hw]

/-! Exceptions. -/

theorem frameBytes_length (s : State) (e : Bool) (mask : Byte) : (frameBytes s e mask).length = stackBytes mask :=
  stackImage_length _ _ _

/-- The stacking of an entry: the frame's bytes pushed, and E written. -/
theorem stackFrame_eq (s : State) (e : ExcEntry) :
    s.stackFrame e = (pushAll .s s (frameBytes s e.eFlag e.mask)).setCC (ccPut s.regs.cc .e e.eFlag) := by
  unfold State.stackFrame State.setFlag
  rw [pushRegs_eq, pushAll_setCC]
  rfl

/-- The part of an entry after the stacking changes CC and PC only. -/
theorem enterHandler_eq (s : State) (e : ExcEntry) (h : 0xFFE0 ≤ e.vector.toNat) (h' : e.vector.toNat < 0xFFFF) :
    s.enterHandler e =
      { s with
        regs :=
          { s.regs with
            cc := ccPutIf (ccPutIf s.regs.cc .i (if e.setI then some true else none)) .f
              (if e.setF then some true else none)
            pc := joinBytes (s.intRom (e.vector.toNat - 0x8000)) (s.intRom (e.vector.toNat - 0x8000 + 1)) } } := by
  unfold State.enterHandler State.loadVector
  rw [readWord_vector _ _ h h']
  unfold State.maskInterrupts
  cases e.setI <;> cases e.setF <;> rfl

end Sys2Proof.Machine
end

