-- ==== Sys2Proof/Laws/Exceptions.lean ====
section
/-! SUPPORT. What taking an exception, servicing a line and the interrupt check can do. -/

namespace Sys2Proof.Machine

open Sys2Proof.Safety

/-- Taking an exception, said once: the frame's bytes are pushed, then only CC and PC differ. -/
theorem takeException_eq (s : State) (e : ExcEntry) (h : 0xFFE0 ≤ e.vector.toNat) (h' : e.vector.toNat < 0xFFFF) :
    s.takeException e =
      { pushAll .s s (frameBytes s e.eFlag e.mask) with
        regs :=
          { (pushAll .s s (frameBytes s e.eFlag e.mask)).regs with
            cc := ccPutIf (ccPutIf (ccPut s.regs.cc .e e.eFlag) .i (if e.setI then some true else none)) .f
              (if e.setF then some true else none)
            pc := joinBytes (s.intRom (e.vector.toNat - 0x8000)) (s.intRom (e.vector.toNat - 0x8000 + 1)) } } := by
  unfold State.takeException
  rw [enterHandler_eq _ _ h h', stackFrame_eq]
  have := (pushAll_kept .s s (frameBytes s e.eFlag e.mask)).2.2.1
  generalize pushAll .s s (frameBytes s e.eFlag e.mask) = p at *
  simp only [State.setCC, State.setRegs, State.intRom, this]

/-- Outside the registers an exception entry is its pushes. -/
theorem takeException_system (s : State) (e : ExcEntry) (h : 0xFFE0 ≤ e.vector.toNat) (h' : e.vector.toNat < 0xFFFF) :
    s.takeException e = { pushAll .s s (frameBytes s e.eFlag e.mask) with regs := (s.takeException e).regs } := by
  rw [takeException_eq s e h h']

/-- The flags an entry writes. -/
def entryFlags (e : ExcEntry) : List (Flag × Bool) :=
  (.e, e.eFlag) :: ((if e.setF then [(.f, true)] else []) ++ (if e.setI then [(.i, true)] else []))

/-- What an entry leaves, for any state with its registers and its RAM. -/
theorem takeException_entry (s t : State) (e : ExcEntry) (h : 0xFFE0 ≤ e.vector.toNat) (h' : e.vector.toNat < 0xFFFF)
    (hregs : t.regs = (s.takeException e).regs) (hram : t.ram = (pushAll .s s (frameBytes s e.eFlag e.mask)).ram) :
    EntryEffect s t e.eFlag e.mask (entryFlags e) (e.vector.toNat - 0x8000) := by
  rw [takeException_eq s e h h'] at hregs
  have hr := pushAll_regs .s s (frameBytes s e.eFlag e.mask)
  have hm := pushAll_ramKept .s s (frameBytes s e.eFlag e.mask)
  have hk := (pushAll_effect .s s (frameBytes s e.eFlag e.mask)).registers
  rw [frameBytes_length] at hr
  generalize pushAll .s s (frameBytes s e.eFlag e.mask) = p at *
  dsimp only at hregs
  unfold entryFlags
  refine ⟨by rw [hregs], ?_, ?_, ?_, ?_⟩
  · rw [hregs, hr]; rfl
  · intro q hq
    rw [← hk q (by simp_all [spName]), hregs]
    cases q <;> first | rfl | simp_all
  · constructor
    · intro p hp
      unfold State.flag
      rw [hregs]
      cases hi : e.setI <;> cases hf : e.setF <;> simp [hi, hf] at hp <;>
        (try rcases hp with hp | hp) <;> (try rcases hp with hp | hp) <;> subst_vars <;>
        simp [ccPutIf, ccGet_ccPut_of_ne]
    · intro k hk
      unfold State.flag
      rw [hregs]
      cases hi : e.setI <;> cases hf : e.setF <;> simp [hi, hf] at hk <;> cases k <;>
        simp_all [ccPutIf, ccGet_ccPut_of_ne]
  · intro p hp
    rw [hram]
    exact hm p hp

/-- The order of a list of flag values does not matter. -/
theorem flagsSet_congr {s t : State} {l l' : List (Flag × Bool)} (h : FlagsSet s t l) (hl : ∀ p, p ∈ l ↔ p ∈ l') :
    FlagsSet s t l' := by
  refine ⟨fun p hp => h.1 p ((hl p).mpr hp), fun k hk => h.2 k ?_⟩
  intro hx
  apply hk
  simp only [List.mem_map] at *
  obtain ⟨a, ha, rfl⟩ := hx
  exact ⟨a, (hl a).mp ha, rfl⟩

/-- Service outside CWAI: the entry, the end of any soft halt, and the cycles. -/
theorem service_full (s : State) (e : ExcEntry) (n : Nat) (hh : s.halt ≠ .cwaiWait) (h : 0xFFE0 ≤ e.vector.toNat)
    (h' : e.vector.toNat < 0xFFFF) :
    s.service e n =
      { pushAll .s s (frameBytes s e.eFlag e.mask) with
        regs := (s.takeException e).regs, halt := .none, cyc := s.cyc + n } := by
  have hs := takeException_system s e h h'
  have e1 : ((s.stackFrame e).addCyc n).enterHandler e = (s.takeException e).addCyc n := by
    unfold State.takeException
    generalize s.stackFrame e = p
    rw [enterHandler_eq _ _ h h', enterHandler_eq _ _ h h']
    rfl
  unfold State.service
  rw [if_neg hh]
  dsimp only
  rw [e1, hs]
  simp only [State.addCyc, State.setHalt, (pushAll_kept _ _ _).1]

/-- Service in the CWAI wait: no stacking, and E as it is. -/
theorem service_skip (s : State) (e : ExcEntry) (n : Nat) (hh : s.halt = .cwaiWait) (h : 0xFFE0 ≤ e.vector.toNat)
    (h' : e.vector.toNat < 0xFFFF) :
    s.service e n =
      { s with
        regs :=
          { s.regs with
            cc := ccPutIf (ccPutIf s.regs.cc .i (if e.setI then some true else none)) .f
              (if e.setF then some true else none)
            pc := joinBytes (s.intRom (e.vector.toNat - 0x8000)) (s.intRom (e.vector.toNat - 0x8000 + 1)) }
        halt := .none
        cyc := s.cyc + s.params.intCyclesSkip } := by
  unfold State.service
  rw [if_pos hh]
  dsimp only
  rw [enterHandler_eq _ _ h h']
  rfl

theorem releaseSync_cases (s : State) :
    s.releaseSync = s ∨ (s.halt = .syncWait ∧ s.releaseSync = s.setHalt .none) := by
  unfold State.releaseSync
  split
  · exact .inr ⟨‹_›, rfl⟩
  · exact .inl rfl

/-- What `RESET_INIT_CC_DP` adds to RESET's service. -/
theorem resetInit_eq (s : State) :
    s.resetInit =
      { s with
        regs := if s.params.resetInitCcDp then { s.regs with cc := s.regs.cc ||| 0x50, dp := 0 } else s.regs } := by
  have h : ∀ c : Byte, ccPut (ccPut c .i true) .f true = c ||| 0x50 := by decide +kernel
  unfold State.resetInit
  split
  · simp only [State.setFlag, State.setCC, State.setDP, State.setRegs, h]
  · rfl

/-- RESET's service: the registers it sets, the line empty, the cycles, the end of any soft halt. -/
theorem serviceReset_eq (s : State) :
    s.serviceReset =
      { s with
        regs := resetRegs s
        halt := .none
        cyc := s.cyc + 2
        lines := { s.lines with resetHost := false } } := by
  unfold State.serviceReset State.loadVector
  rw [readWord_vector _ _ (by decide) (by decide), resetInit_eq]
  rfl

theorem releaseSync_lines (s : State) : s.releaseSync.lines = s.lines := by
  rcases releaseSync_cases s with h | ⟨_, h⟩
  · rw [h]
  · rw [h]; rfl

theorem releaseSync_regs (s : State) : s.releaseSync.regs = s.regs := by
  rcases releaseSync_cases s with h | ⟨_, h⟩
  · rw [h]
  · rw [h]; rfl

theorem releaseSync_params (s : State) : s.releaseSync.params = s.params := by
  rcases releaseSync_cases s with h | ⟨_, h⟩
  · rw [h]
  · rw [h]; rfl

/-- With `RESET_FIRST` a pending RESET is all the check serves. -/
theorem interruptCheck_resetFirst (s : State) (h : s.params.resetFirst = true) (hr : s.lines.resetHost = true) :
    s.interruptCheck = s.serviceReset := by
  unfold State.interruptCheck State.lineOrder
  rw [if_pos h]
  unfold State.checkLines
  rw [show s.linePending .reset = true from hr]
  rfl

/-- The check of IRQ: a masked line releases a SYNC wait, and goes on unless it blocks. -/
theorem checkLines_irq (s : State) (rest : List CpuLine) :
    s.checkLines (.irq :: rest) =
      if s.lines.irq.any then
        (if s.flag .i then (if s.params.maskedLineBlocks then s.releaseSync else s.releaseSync.checkLines rest)
        else s.serviceIrq)
      else s.checkLines rest := rfl

/-- The check of FIRQ: a masked line releases a SYNC wait, and goes on unless it blocks. -/
theorem checkLines_firq (s : State) (rest : List CpuLine) :
    s.checkLines (.firq :: rest) =
      if s.lines.firq.any then
        (if s.flag .f then (if s.params.maskedLineBlocks then s.releaseSync else s.releaseSync.checkLines rest)
        else s.serviceFirq)
      else s.checkLines rest := rfl

/-- The check of RESET, where it comes last. -/
theorem checkLines_reset (s : State) : s.checkLines [.reset] = if s.lines.resetHost then s.serviceReset else s := rfl

/-- Where RESET is not pending it does not matter whether it stands at the end of the order. -/
theorem checkLines_noReset (s : State) (h : s.lines.resetHost = false) :
    s.checkLines [.firq, .irq] = s.checkLines [.firq, .irq, .reset] := by
  have h1 : ∀ t : State, t.lines.resetHost = false → t.checkLines [.reset] = t.checkLines [] := by
    intro t ht
    rw [checkLines_reset, ht]
    rfl
  have h2 : ∀ t : State, t.lines.resetHost = false → t.checkLines [.irq, .reset] = t.checkLines [.irq] := by
    intro t ht
    rw [checkLines_irq, checkLines_irq, h1 t ht, h1 _ (by rw [releaseSync_lines]; exact ht)]
  rw [checkLines_firq, checkLines_firq, h2 s h, h2 _ (by rw [releaseSync_lines]; exact h)]

/-- The check where `RESET_FIRST` does not serve RESET: NMI, then FIRQ, IRQ and RESET. -/
theorem interruptCheck_chain (s : State) (h : s.params.resetFirst = false ∨ s.lines.resetHost = false) :
    s.interruptCheck = if s.lines.nmiExt then s.serviceNmi else s.checkLines [.firq, .irq, .reset] := by
  unfold State.interruptCheck State.lineOrder
  cases hf : s.params.resetFirst with
  | false => rfl
  | true =>
    have hr : s.lines.resetHost = false := by simpa [hf] using h
    rw [← checkLines_noReset s hr]
    show (if s.lines.resetHost then s.serviceReset else s.checkLines [.nmi, .firq, .irq]) = _
    rw [hr]
    rfl

theorem maskInterrupts_kept (s : State) (e : ExcEntry) :
    (s.maskInterrupts e).params = s.params ∧ (s.maskInterrupts e).platform = s.platform := by
  unfold State.maskInterrupts
  cases e.setI <;> cases e.setF <;> exact ⟨rfl, rfl⟩

/-- A service writes neither a parameter nor a ROM image. -/
theorem service_kept (s : State) (e : ExcEntry) (n : Nat) :
    (s.service e n).params = s.params ∧ (s.service e n).platform = s.platform := by
  have h := pushAll_kept .s s (frameBytes s e.eFlag e.mask)
  unfold State.service State.enterHandler
  split <;> simp [stackFrame_eq, State.loadVector, maskInterrupts_kept, h]

theorem checkLines_kept (l : List CpuLine) (s : State) :
    (s.checkLines l).params = s.params ∧ (s.checkLines l).platform = s.platform := by
  have hr : ∀ s : State, s.releaseSync.params = s.params ∧ s.releaseSync.platform = s.platform := by
    intro s; unfold State.releaseSync; split <;> exact ⟨rfl, rfl⟩
  induction l generalizing s with
  | nil => exact ⟨rfl, rfl⟩
  | cons c rest ih =>
    have hs := (ih s.releaseSync).1.trans (hr s).1
    have hs' := (ih s.releaseSync).2.trans (hr s).2
    cases c <;> unfold State.checkLines <;> (repeat' split) <;>
      first
      | exact ih s
      | exact hr s
      | exact ⟨hs, hs'⟩
      | exact service_kept s _ _
      | (rw [serviceReset_eq]; exact ⟨rfl, rfl⟩)

/-- The interrupt check writes neither a parameter nor a ROM image. -/
theorem interruptCheck_kept (s : State) :
    s.interruptCheck.params = s.params ∧ s.interruptCheck.platform = s.platform := checkLines_kept _ s

end Sys2Proof.Machine
end

