-- ==== Sys2Proof/Laws/Exec.lean ====
section
/-! SUPPORT. `exec` on the instruction families of Safety.lean: one equation per family, to the shared operation that is its
meaning; and what the shared operations of TFR, EXG and the unary instructions compute. -/

namespace Sys2Proof.Machine

open Sys2Proof.Safety

theorem exec_loadByte (k : Acc) (o : Src8) (s : State) : exec (loadByte k o) s = loadAcc k o s := by
  cases k <;> rcases o with v | m <;> (try cases m) <;> rfl

theorem exec_loadWord (k : Reg16) (o : Src16) (s : State) : exec (loadWord k o) s = load16 k o s := by
  cases k <;> rcases o with v | m <;> (try cases m) <;> rfl

theorem exec_storeByte (k : Acc) (m : MemOp) (s : State) : exec (storeByte k m) s = storeAcc k m s := by
  cases k <;> cases m <;> rfl

theorem exec_storeWord (k : Reg16) (m : MemOp) (s : State) : exec (storeWord k m) s = store16 k m s := by
  cases k <;> cases m <;> rfl

theorem exec_lea (k : IdxReg) (ix : Indexed) (s : State) :
    exec (lea k ix) s = if k = .x ∨ k = .y then leaZ k ix s else leaNoFlags k ix s := by
  cases k <;> rfl

theorem exec_addInstr (k : Acc) (c : Bool) (o : Src8) (s : State) :
    exec (addInstr k c o) s = aluAcc k (fun a m f => add8 a m (c && f)) o s := by
  cases k <;> cases c <;> rcases o with v | m <;> (try cases m) <;> rfl

theorem exec_subInstr (k : Acc) (c : Bool) (o : Src8) (s : State) :
    exec (subInstr k c o) s = aluAcc k (fun a m f => sub8 a m (c && f)) o s := by
  cases k <;> cases c <;> rcases o with v | m <;> (try cases m) <;> rfl

theorem exec_cmpInstr (k : Acc) (o : Src8) (s : State) :
    exec (cmpInstr k o) s = testAcc k (fun a m => sub8 a m false) o s := by
  cases k <;> rcases o with v | m <;> (try cases m) <;> rfl

theorem exec_bitInstr (k : Acc) (o : Src8) (s : State) : exec (bitInstr k o) s = testAcc k and8 o s := by
  cases k <;> rcases o with v | m <;> (try cases m) <;> rfl

/-- The 8-bit operation of a logic family. -/
def logicAlu : LogicOp → Byte → Byte → Alu8
  | .and => and8
  | .or => or8
  | .eor => eor8

theorem exec_logicInstr (op : LogicOp) (k : Acc) (o : Src8) (s : State) :
    exec (logicInstr op k o) s = aluAcc k (fun a m _ => logicAlu op a m) o s := by
  cases op <;> cases k <;> rcases o with v | m <;> (try cases m) <;> rfl

theorem exec_addd (o : Src16) (s : State) : exec (Instr.addd o) s = aluD add16 o s := by
  rcases o with v | m <;> (try cases m) <;> rfl

theorem exec_subd (o : Src16) (s : State) : exec (Instr.subd o) s = aluD sub16 o s := by
  rcases o with v | m <;> (try cases m) <;> rfl

theorem exec_cmpWord (k : Reg16) (o : Src16) (s : State) : exec (cmpWord k o) s = compare16 k o s := by
  cases k <;> rcases o with v | m <;> (try cases m) <;> rfl

/-- The 8-bit operation of a unary family. -/
def unaryAlu (op : UnaryOp) (v : Byte) (c : Bool) : Alu8 :=
  match op with
  | .neg => neg8 v
  | .com => com8 v
  | .lsr => lsr8 v
  | .ror => ror8 v c
  | .asr => asr8 v
  | .asl => asl8 v
  | .rol => rol8 v c
  | .dec => dec8 v
  | .inc => inc8 v
  | .clr => clr8

theorem exec_unaryMem (op : UnaryOp) (m : MemOp) (s : State) :
    exec (unaryMem op m) s = modifyMem (unaryAlu op) m s := by
  cases op <;> cases m <;> rfl

theorem exec_unaryAcc (op : UnaryOp) (k : Acc) (s : State) :
    exec (unaryAcc op k) s = modifyAcc k (unaryAlu op) s := by
  cases op <;> cases k <;> rfl

theorem unaryAlu_r (op : UnaryOp) (v : Byte) (c : Bool) : (unaryAlu op v c).r = unaryResult op v c := by
  cases op <;> cases c <;> revert v <;> decide +kernel

/-- The flags of a unary operation: N, Z of the result, and the V and C of `unaryVC` where it lists them. -/
theorem unaryAlu_fl (op : UnaryOp) (v : Byte) (c : Bool) :
    (unaryAlu op v c).fl =
      { h := none
        n := some (unaryResult op v c).msb
        z := some (unaryResult op v c == 0)
        v := ((unaryVC op v).find? fun p => p.1 == .v).map Prod.snd
        c := ((unaryVC op v).find? fun p => p.1 == .c).map Prod.snd } := by
  cases op <;> cases c <;> revert v <;> decide +kernel

theorem exec_tst (m : MemOp) (s : State) : exec (Instr.tst m) s = testMem m s := by
  cases m <;> rfl

theorem exec_tstAcc (k : Acc) (s : State) : exec (tstAcc k) s = testAccInherent k s := by
  cases k <;> rfl

theorem exec_shortBranch (k : Cond) (r : Byte) (s : State) : exec (shortBranch k r) s = branch k (sext8 r) s := by
  cases k <;> rfl

theorem exec_longBranchInstr (k : Cond) (r : Word) (s : State) :
    exec (longBranchInstr k r) s = if k = .always then branch k r s else longBranch k r s := by
  cases k <;> rfl

/-- The conditions, as the table of 45 R450 states them. -/
theorem condHolds_iff (k : Cond) (s : State) :
    condHolds k s.regs.cc = true ↔ taken k (s.flag .c) (s.flag .z) (s.flag .n) (s.flag .v) := by
  unfold State.flag
  generalize hC : ccGet s.regs.cc .c = c
  generalize hZ : ccGet s.regs.cc .z = z
  generalize hN : ccGet s.regs.cc .n = n
  generalize hV : ccGet s.regs.cc .v = v
  cases k <;> simp [condHolds, taken, hC, hZ, hN, hV]

theorem exec_pushInstr (k : Stack) (mask : Byte) (s : State) : exec (pushInstr k mask) s = pushMask k mask s := by
  cases k <;> rfl

theorem exec_pullInstr (k : Stack) (mask : Byte) (s : State) : exec (pullInstr k mask) s = pullMask k mask s := by
  cases k <;> rfl

/-! Register codes. -/

/-- Every 4-bit code. -/
theorem code_cases (c : BitVec 4) :
    c = 0 ∨ c = 1 ∨ c = 2 ∨ c = 3 ∨ c = 4 ∨ c = 5 ∨ c = 6 ∨ c = 7 ∨ c = 8 ∨ c = 9 ∨ c = 10 ∨ c = 11 ∨ c = 12 ∨ c = 13 ∨
      c = 14 ∨ c = 15 := by
  revert c; decide

theorem regWrite_eq (s : State) (c : BitVec 4) (v : Word) :
    s.regWrite c v = { s with regs := writeCode c v s.regs } := by
  rcases code_cases c with h | h | h | h | h | h | h | h | h | h | h | h | h | h | h | h <;> subst h <;> rfl

theorem regRead_eq (s : State) (c dst : BitVec 4) : s.regRead c dst = codeValue s.regs c dst := by
  have h2 : codeIs8 dst = decide (8 ≤ dst.toNat) := by revert dst; decide
  unfold State.regRead codeValue
  rw [h2]
  by_cases hd : 8 ≤ dst.toNat
  · simp only [hd, decide_true, if_true]
    rcases code_cases c with h | h | h | h | h | h | h | h | h | h | h | h | h | h | h | h <;> subst h <;> rfl
  · simp only [hd, decide_false, if_false, Bool.false_eq_true]
    rcases code_cases c with h | h | h | h | h | h | h | h | h | h | h | h | h | h | h | h <;> subst h <;> rfl

theorem loByte_zext8 (v : Byte) : loByte (zext8 v) = v := by
  apply BitVec.eq_of_toNat_eq
  rw [toNat_loByte]
  simp [zext8]
  omega

end Sys2Proof.Machine
end

