-- ==== Sys2Proof/Laws/Fetch.lean ====
section
/-! SUPPORT. What fetching an instruction's bytes leaves alone. -/

namespace Sys2Proof.Machine

/-- A fetch writes neither a parameter nor a ROM image. -/
theorem fetchMore_kept (s : State) (n : Nat) (bs : List Byte) :
    (s.fetchMore n bs).2.params = s.params ∧ (s.fetchMore n bs).2.platform = s.platform := by
  induction n generalizing s bs with
  | zero => exact ⟨rfl, rfl⟩
  | succ n ih =>
    have h : s.fetch8.2.params = s.params := readByte_params s s.regs.pc
    have h' : s.fetch8.2.platform = s.platform := readByte_platform s s.regs.pc
    unfold State.fetchMore
    dsimp only
    split
    · exact ⟨(ih _ _).1.trans h, (ih _ _).2.trans h'⟩
    · exact ⟨h, h'⟩

/-- Below the I/O window a fetched byte changes PC only. -/
theorem fetch8_plain (s : State) (h : s.regs.pc.toNat < 0xFF00) :
    s.fetch8 = ((s.readByte s.regs.pc).1, { s with regs := { s.regs with pc := s.regs.pc + 1 } }) := by
  unfold State.fetch8
  dsimp only
  rw [readByte_pure s _ h]

end Sys2Proof.Machine
end

