-- ==== Sys2Proof/Laws/OpcodeMap.lean ====
section
/-! SUPPORT. The decoder on a first byte that is no prefix and on an opcode without a row, the opcode number of an
instruction, and a property of every row of the opcode maps, map row by map row. -/

namespace Sys2Proof.Machine

open Sys2Proof.Safety

/-- The opcode number of an instruction without a prefix is its first byte. -/
theorem opcodeNumber_page1 (i : Instr) (b : Byte) (l : List Byte) (h : encode i = b :: l) (h1 : b ≠ 0x10) (h2 : b ≠ 0x11) :
    opcodeNumber i = b.toNat := by
  unfold opcodeNumber
  rw [h]
  cases l with
  | nil => rfl
  | cons c l => exact if_neg (by rintro (h | h); exacts [h1 h, h2 h])

/-- The opcode number of an instruction with a prefix has the prefix in the high byte. -/
theorem opcodeNumber_prefixed (i : Instr) (p b : Byte) (l : List Byte) (h : encode i = p :: b :: l)
    (hp : p = 0x10 ∨ p = 0x11) : opcodeNumber i = p.toNat * 0x100 + b.toNat := by
  unfold opcodeNumber
  rw [h]
  exact if_pos hp

/-- A first byte that is no prefix is a page-1 opcode. -/
theorem decode_unprefixed (b : Byte) (rest : List Byte) (h1 : b ≠ 0x10) (h2 : b ≠ 0x11) :
    decode (b :: rest) = decodePage1 b false rest := by
  show (if b = 0x10 then _ else if b = 0x11 then _ else _) = _
  rw [if_neg h1, if_neg h2]

/-- An opcode that no row of a table has is not found in it. -/
theorem findRow_eq_none (l : List (Nat × Entry)) (op : Nat) (h : ∀ e ∈ l, e.1 ≠ op) : findRow l op = none := by
  induction l with
  | nil => rfl
  | cons x l ih =>
    obtain ⟨k, e⟩ := x
    unfold findRow
    rw [if_neg fun hk => h (k, e) (by simp) hk.symm]
    exact ih fun e he => h e (by simp [he])

/-- The rows of the three maps. -/
def mapRows : List (List (Nat × Entry × Nat)) :=
  [map1Row0, map1Row1, map1Row2, map1Row3, map1Row4, map1Row5, map1Row6, map1Row7, map1Row8, map1Row9, map1RowA,
   map1RowB, map1RowC, map1RowD, map1RowE, map1RowF, map2Row2, map2Row3, map2Row8, map2Row9, map2RowA, map2RowB,
   map2RowC, map2RowD, map2RowE, map2RowF, map3Row3, map3Row8, map3Row9, map3RowA, map3RowB]

/-- What holds in every row of the maps holds of every opcode of them. -/
theorem opcodeMap_forall (P : Nat × Entry × Nat → Prop) (h : ∀ l ∈ mapRows, ∀ row ∈ l, P row) : ∀ row ∈ opcodeMap, P row := by
  intro row hr
  have e : opcodeMap = mapRows.flatten := by
    simp only [opcodeMap, opcodeMap1, opcodeMap2, opcodeMap3, mapRows, List.flatten_cons, List.flatten_nil,
      List.append_assoc, List.append_nil]
  rw [e] at hr
  obtain ⟨l, hl, hr⟩ := List.mem_flatten.1 hr
  exact h l hl row hr

end Sys2Proof.Machine
end

