-- ==== Sys2Proof/Laws/PerInstr.lean ====
section
/-! SUPPORT. The per-instruction family `EncodeLength`: an instruction is one to five bytes (spec/30_encoding.md R130),
one lemma per constructor. -/

namespace Sys2Proof.Laws.EncodeLength

/-- The instruction's bytes are at least one and at most five. -/
def Statement (i : Instr) : Prop := 1 ≤ (encode i).length ∧ (encode i).length ≤ 5

/-- An indexed operand is one to three bytes. -/
theorem indexed_length (ix : Indexed) : 1 ≤ (encodeIndexed ix).length ∧ (encodeIndexed ix).length ≤ 3 := by
  obtain ⟨m, ind⟩ := ix
  cases m <;> simp [encodeIndexed, wordBytes]

/-- Opcode bytes, at most two of them, and an indexed operand. -/
theorem of_indexed (i : Instr) (p : List Byte) (ix : Indexed) (h : encode i = p ++ encodeIndexed ix) (hp : p.length ≤ 2) :
    Statement i := by
  have := indexed_length ix
  unfold Statement
  rw [h, List.length_append]
  omega

/-- A fixed number of bytes. -/
theorem of_length (i : Instr) (n : Nat) (h : (encode i).length = n) (h1 : 1 ≤ n) (h5 : n ≤ 5) : Statement i := by
  unfold Statement
  omega

theorem negDir (d : Byte) : Statement (.negDir d) := of_length _ 2 rfl (by decide) (by decide)
theorem comDir (d : Byte) : Statement (.comDir d) := of_length _ 2 rfl (by decide) (by decide)
theorem lsrDir (d : Byte) : Statement (.lsrDir d) := of_length _ 2 rfl (by decide) (by decide)
theorem rorDir (d : Byte) : Statement (.rorDir d) := of_length _ 2 rfl (by decide) (by decide)
theorem asrDir (d : Byte) : Statement (.asrDir d) := of_length _ 2 rfl (by decide) (by decide)
theorem aslDir (d : Byte) : Statement (.aslDir d) := of_length _ 2 rfl (by decide) (by decide)
theorem rolDir (d : Byte) : Statement (.rolDir d) := of_length _ 2 rfl (by decide) (by decide)
theorem decDir (d : Byte) : Statement (.decDir d) := of_length _ 2 rfl (by decide) (by decide)
theorem incDir (d : Byte) : Statement (.incDir d) := of_length _ 2 rfl (by decide) (by decide)
theorem tstDir (d : Byte) : Statement (.tstDir d) := of_length _ 2 rfl (by decide) (by decide)
theorem jmpDir (d : Byte) : Statement (.jmpDir d) := of_length _ 2 rfl (by decide) (by decide)
theorem clrDir (d : Byte) : Statement (.clrDir d) := of_length _ 2 rfl (by decide) (by decide)
theorem lbra (r : Word) : Statement (.lbra r) := of_length _ 3 rfl (by decide) (by decide)
theorem lbsr (r : Word) : Statement (.lbsr r) := of_length _ 3 rfl (by decide) (by decide)
theorem orcc (v : Byte) : Statement (.orcc v) := of_length _ 2 rfl (by decide) (by decide)
theorem andcc (v : Byte) : Statement (.andcc v) := of_length _ 2 rfl (by decide) (by decide)
theorem exg (r1 : BitVec 4) (r2 : BitVec 4) : Statement (.exg r1 r2) := of_length _ 2 rfl (by decide) (by decide)
theorem tfr (src : BitVec 4) (dst : BitVec 4) : Statement (.tfr src dst) := of_length _ 2 rfl (by decide) (by decide)
theorem bra (r : Byte) : Statement (.bra r) := of_length _ 2 rfl (by decide) (by decide)
theorem brn (r : Byte) : Statement (.brn r) := of_length _ 2 rfl (by decide) (by decide)
theorem bhi (r : Byte) : Statement (.bhi r) := of_length _ 2 rfl (by decide) (by decide)
theorem bls (r : Byte) : Statement (.bls r) := of_length _ 2 rfl (by decide) (by decide)
theorem bcc (r : Byte) : Statement (.bcc r) := of_length _ 2 rfl (by decide) (by decide)
theorem bcs (r : Byte) : Statement (.bcs r) := of_length _ 2 rfl (by decide) (by decide)
theorem bne (r : Byte) : Statement (.bne r) := of_length _ 2 rfl (by decide) (by decide)
theorem beq (r : Byte) : Statement (.beq r) := of_length _ 2 rfl (by decide) (by decide)
theorem bvc (r : Byte) : Statement (.bvc r) := of_length _ 2 rfl (by decide) (by decide)
theorem bvs (r : Byte) : Statement (.bvs r) := of_length _ 2 rfl (by decide) (by decide)
theorem bpl (r : Byte) : Statement (.bpl r) := of_length _ 2 rfl (by decide) (by decide)
theorem bmi (r : Byte) : Statement (.bmi r) := of_length _ 2 rfl (by decide) (by decide)
theorem bge (r : Byte) : Statement (.bge r) := of_length _ 2 rfl (by decide) (by decide)
theorem blt (r : Byte) : Statement (.blt r) := of_length _ 2 rfl (by decide) (by decide)
theorem bgt (r : Byte) : Statement (.bgt r) := of_length _ 2 rfl (by decide) (by decide)
theorem ble (r : Byte) : Statement (.ble r) := of_length _ 2 rfl (by decide) (by decide)
theorem leax (ix : Indexed) : Statement (.leax ix) := of_indexed _ [0x30] ix rfl (by decide)
theorem leay (ix : Indexed) : Statement (.leay ix) := of_indexed _ [0x31] ix rfl (by decide)
theorem leas (ix : Indexed) : Statement (.leas ix) := of_indexed _ [0x32] ix rfl (by decide)
theorem leau (ix : Indexed) : Statement (.leau ix) := of_indexed _ [0x33] ix rfl (by decide)
theorem pshs (mask : Byte) : Statement (.pshs mask) := of_length _ 2 rfl (by decide) (by decide)
theorem puls (mask : Byte) : Statement (.puls mask) := of_length _ 2 rfl (by decide) (by decide)
theorem pshu (mask : Byte) : Statement (.pshu mask) := of_length _ 2 rfl (by decide) (by decide)
theorem pulu (mask : Byte) : Statement (.pulu mask) := of_length _ 2 rfl (by decide) (by decide)
theorem cwai (v : Byte) : Statement (.cwai v) := of_length _ 2 rfl (by decide) (by decide)
theorem negIdx (ix : Indexed) : Statement (.negIdx ix) := of_indexed _ [0x60] ix rfl (by decide)
theorem comIdx (ix : Indexed) : Statement (.comIdx ix) := of_indexed _ [0x63] ix rfl (by decide)
theorem lsrIdx (ix : Indexed) : Statement (.lsrIdx ix) := of_indexed _ [0x64] ix rfl (by decide)
theorem rorIdx (ix : Indexed) : Statement (.rorIdx ix) := of_indexed _ [0x66] ix rfl (by decide)
theorem asrIdx (ix : Indexed) : Statement (.asrIdx ix) := of_indexed _ [0x67] ix rfl (by decide)
theorem aslIdx (ix : Indexed) : Statement (.aslIdx ix) := of_indexed _ [0x68] ix rfl (by decide)
theorem rolIdx (ix : Indexed) : Statement (.rolIdx ix) := of_indexed _ [0x69] ix rfl (by decide)
theorem decIdx (ix : Indexed) : Statement (.decIdx ix) := of_indexed _ [0x6A] ix rfl (by decide)
theorem incIdx (ix : Indexed) : Statement (.incIdx ix) := of_indexed _ [0x6C] ix rfl (by decide)
theorem tstIdx (ix : Indexed) : Statement (.tstIdx ix) := of_indexed _ [0x6D] ix rfl (by decide)
theorem jmpIdx (ix : Indexed) : Statement (.jmpIdx ix) := of_indexed _ [0x6E] ix rfl (by decide)
theorem clrIdx (ix : Indexed) : Statement (.clrIdx ix) := of_indexed _ [0x6F] ix rfl (by decide)
theorem negExt (w : Word) : Statement (.negExt w) := of_length _ 3 rfl (by decide) (by decide)
theorem comExt (w : Word) : Statement (.comExt w) := of_length _ 3 rfl (by decide) (by decide)
theorem lsrExt (w : Word) : Statement (.lsrExt w) := of_length _ 3 rfl (by decide) (by decide)
theorem rorExt (w : Word) : Statement (.rorExt w) := of_length _ 3 rfl (by decide) (by decide)
theorem asrExt (w : Word) : Statement (.asrExt w) := of_length _ 3 rfl (by decide) (by decide)
theorem aslExt (w : Word) : Statement (.aslExt w) := of_length _ 3 rfl (by decide) (by decide)
theorem rolExt (w : Word) : Statement (.rolExt w) := of_length _ 3 rfl (by decide) (by decide)
theorem decExt (w : Word) : Statement (.decExt w) := of_length _ 3 rfl (by decide) (by decide)
theorem incExt (w : Word) : Statement (.incExt w) := of_length _ 3 rfl (by decide) (by decide)
theorem tstExt (w : Word) : Statement (.tstExt w) := of_length _ 3 rfl (by decide) (by decide)
theorem jmpExt (w : Word) : Statement (.jmpExt w) := of_length _ 3 rfl (by decide) (by decide)
theorem clrExt (w : Word) : Statement (.clrExt w) := of_length _ 3 rfl (by decide) (by decide)
theorem subaImm (v : Byte) : Statement (.subaImm v) := of_length _ 2 rfl (by decide) (by decide)
theorem cmpaImm (v : Byte) : Statement (.cmpaImm v) := of_length _ 2 rfl (by decide) (by decide)
theorem sbcaImm (v : Byte) : Statement (.sbcaImm v) := of_length _ 2 rfl (by decide) (by decide)
theorem subdImm (v : Word) : Statement (.subdImm v) := of_length _ 3 rfl (by decide) (by decide)
theorem andaImm (v : Byte) : Statement (.andaImm v) := of_length _ 2 rfl (by decide) (by decide)
theorem bitaImm (v : Byte) : Statement (.bitaImm v) := of_length _ 2 rfl (by decide) (by decide)
theorem ldaImm (v : Byte) : Statement (.ldaImm v) := of_length _ 2 rfl (by decide) (by decide)
theorem eoraImm (v : Byte) : Statement (.eoraImm v) := of_length _ 2 rfl (by decide) (by decide)
theorem adcaImm (v : Byte) : Statement (.adcaImm v) := of_length _ 2 rfl (by decide) (by decide)
theorem oraImm (v : Byte) : Statement (.oraImm v) := of_length _ 2 rfl (by decide) (by decide)
theorem addaImm (v : Byte) : Statement (.addaImm v) := of_length _ 2 rfl (by decide) (by decide)
theorem cmpxImm (v : Word) : Statement (.cmpxImm v) := of_length _ 3 rfl (by decide) (by decide)
theorem bsr (r : Byte) : Statement (.bsr r) := of_length _ 2 rfl (by decide) (by decide)
theorem ldxImm (v : Word) : Statement (.ldxImm v) := of_length _ 3 rfl (by decide) (by decide)
theorem subaDir (d : Byte) : Statement (.subaDir d) := of_length _ 2 rfl (by decide) (by decide)
theorem cmpaDir (d : Byte) : Statement (.cmpaDir d) := of_length _ 2 rfl (by decide) (by decide)
theorem sbcaDir (d : Byte) : Statement (.sbcaDir d) := of_length _ 2 rfl (by decide) (by decide)
theorem subdDir (d : Byte) : Statement (.subdDir d) := of_length _ 2 rfl (by decide) (by decide)
theorem andaDir (d : Byte) : Statement (.andaDir d) := of_length _ 2 rfl (by decide) (by decide)
theorem bitaDir (d : Byte) : Statement (.bitaDir d) := of_length _ 2 rfl (by decide) (by decide)
theorem ldaDir (d : Byte) : Statement (.ldaDir d) := of_length _ 2 rfl (by decide) (by decide)
theorem staDir (d : Byte) : Statement (.staDir d) := of_length _ 2 rfl (by decide) (by decide)
theorem eoraDir (d : Byte) : Statement (.eoraDir d) := of_length _ 2 rfl (by decide) (by decide)
theorem adcaDir (d : Byte) : Statement (.adcaDir d) := of_length _ 2 rfl (by decide) (by decide)
theorem oraDir (d : Byte) : Statement (.oraDir d) := of_length _ 2 rfl (by decide) (by decide)
theorem addaDir (d : Byte) : Statement (.addaDir d) := of_length _ 2 rfl (by decide) (by decide)
theorem cmpxDir (d : Byte) : Statement (.cmpxDir d) := of_length _ 2 rfl (by decide) (by decide)
theorem jsrDir (d : Byte) : Statement (.jsrDir d) := of_length _ 2 rfl (by decide) (by decide)
theorem ldxDir (d : Byte) : Statement (.ldxDir d) := of_length _ 2 rfl (by decide) (by decide)
theorem stxDir (d : Byte) : Statement (.stxDir d) := of_length _ 2 rfl (by decide) (by decide)
theorem subaIdx (ix : Indexed) : Statement (.subaIdx ix) := of_indexed _ [0xA0] ix rfl (by decide)
theorem cmpaIdx (ix : Indexed) : Statement (.cmpaIdx ix) := of_indexed _ [0xA1] ix rfl (by decide)
theorem sbcaIdx (ix : Indexed) : Statement (.sbcaIdx ix) := of_indexed _ [0xA2] ix rfl (by decide)
theorem subdIdx (ix : Indexed) : Statement (.subdIdx ix) := of_indexed _ [0xA3] ix rfl (by decide)
theorem andaIdx (ix : Indexed) : Statement (.andaIdx ix) := of_indexed _ [0xA4] ix rfl (by decide)
theorem bitaIdx (ix : Indexed) : Statement (.bitaIdx ix) := of_indexed _ [0xA5] ix rfl (by decide)
theorem ldaIdx (ix : Indexed) : Statement (.ldaIdx ix) := of_indexed _ [0xA6] ix rfl (by decide)
theorem staIdx (ix : Indexed) : Statement (.staIdx ix) := of_indexed _ [0xA7] ix rfl (by decide)
theorem eoraIdx (ix : Indexed) : Statement (.eoraIdx ix) := of_indexed _ [0xA8] ix rfl (by decide)
theorem adcaIdx (ix : Indexed) : Statement (.adcaIdx ix) := of_indexed _ [0xA9] ix rfl (by decide)
theorem oraIdx (ix : Indexed) : Statement (.oraIdx ix) := of_indexed _ [0xAA] ix rfl (by decide)
theorem addaIdx (ix : Indexed) : Statement (.addaIdx ix) := of_indexed _ [0xAB] ix rfl (by decide)
theorem cmpxIdx (ix : Indexed) : Statement (.cmpxIdx ix) := of_indexed _ [0xAC] ix rfl (by decide)
theorem jsrIdx (ix : Indexed) : Statement (.jsrIdx ix) := of_indexed _ [0xAD] ix rfl (by decide)
theorem ldxIdx (ix : Indexed) : Statement (.ldxIdx ix) := of_indexed _ [0xAE] ix rfl (by decide)
theorem stxIdx (ix : Indexed) : Statement (.stxIdx ix) := of_indexed _ [0xAF] ix rfl (by decide)
theorem subaExt (w : Word) : Statement (.subaExt w) := of_length _ 3 rfl (by decide) (by decide)
theorem cmpaExt (w : Word) : Statement (.cmpaExt w) := of_length _ 3 rfl (by decide) (by decide)
theorem sbcaExt (w : Word) : Statement (.sbcaExt w) := of_length _ 3 rfl (by decide) (by decide)
theorem subdExt (w : Word) : Statement (.subdExt w) := of_length _ 3 rfl (by decide) (by decide)
theorem andaExt (w : Word) : Statement (.andaExt w) := of_length _ 3 rfl (by decide) (by decide)
theorem bitaExt (w : Word) : Statement (.bitaExt w) := of_length _ 3 rfl (by decide) (by decide)
theorem ldaExt (w : Word) : Statement (.ldaExt w) := of_length _ 3 rfl (by decide) (by decide)
theorem staExt (w : Word) : Statement (.staExt w) := of_length _ 3 rfl (by decide) (by decide)
theorem eoraExt (w : Word) : Statement (.eoraExt w) := of_length _ 3 rfl (by decide) (by decide)
theorem adcaExt (w : Word) : Statement (.adcaExt w) := of_length _ 3 rfl (by decide) (by decide)
theorem oraExt (w : Word) : Statement (.oraExt w) := of_length _ 3 rfl (by decide) (by decide)
theorem addaExt (w : Word) : Statement (.addaExt w) := of_length _ 3 rfl (by decide) (by decide)
theorem cmpxExt (w : Word) : Statement (.cmpxExt w) := of_length _ 3 rfl (by decide) (by decide)
theorem jsrExt (w : Word) : Statement (.jsrExt w) := of_length _ 3 rfl (by decide) (by decide)
theorem ldxExt (w : Word) : Statement (.ldxExt w) := of_length _ 3 rfl (by decide) (by decide)
theorem stxExt (w : Word) : Statement (.stxExt w) := of_length _ 3 rfl (by decide) (by decide)
theorem subbImm (v : Byte) : Statement (.subbImm v) := of_length _ 2 rfl (by decide) (by decide)
theorem cmpbImm (v : Byte) : Statement (.cmpbImm v) := of_length _ 2 rfl (by decide) (by decide)
theorem sbcbImm (v : Byte) : Statement (.sbcbImm v) := of_length _ 2 rfl (by decide) (by decide)
theorem adddImm (v : Word) : Statement (.adddImm v) := of_length _ 3 rfl (by decide) (by decide)
theorem andbImm (v : Byte) : Statement (.andbImm v) := of_length _ 2 rfl (by decide) (by decide)
theorem bitbImm (v : Byte) : Statement (.bitbImm v) := of_length _ 2 rfl (by decide) (by decide)
theorem ldbImm (v : Byte) : Statement (.ldbImm v) := of_length _ 2 rfl (by decide) (by decide)
theorem eorbImm (v : Byte) : Statement (.eorbImm v) := of_length _ 2 rfl (by decide) (by decide)
theorem adcbImm (v : Byte) : Statement (.adcbImm v) := of_length _ 2 rfl (by decide) (by decide)
theorem orbImm (v : Byte) : Statement (.orbImm v) := of_length _ 2 rfl (by decide) (by decide)
theorem addbImm (v : Byte) : Statement (.addbImm v) := of_length _ 2 rfl (by decide) (by decide)
theorem lddImm (v : Word) : Statement (.lddImm v) := of_length _ 3 rfl (by decide) (by decide)
theorem lduImm (v : Word) : Statement (.lduImm v) := of_length _ 3 rfl (by decide) (by decide)
theorem subbDir (d : Byte) : Statement (.subbDir d) := of_length _ 2 rfl (by decide) (by decide)
theorem cmpbDir (d : Byte) : Statement (.cmpbDir d) := of_length _ 2 rfl (by decide) (by decide)
theorem sbcbDir (d : Byte) : Statement (.sbcbDir d) := of_length _ 2 rfl (by decide) (by decide)
theorem adddDir (d : Byte) : Statement (.adddDir d) := of_length _ 2 rfl (by decide) (by decide)
theorem andbDir (d : Byte) : Statement (.andbDir d) := of_length _ 2 rfl (by decide) (by decide)
theorem bitbDir (d : Byte) : Statement (.bitbDir d) := of_length _ 2 rfl (by decide) (by decide)
theorem ldbDir (d : Byte) : Statement (.ldbDir d) := of_length _ 2 rfl (by decide) (by decide)
theorem stbDir (d : Byte) : Statement (.stbDir d) := of_length _ 2 rfl (by decide) (by decide)
theorem eorbDir (d : Byte) : Statement (.eorbDir d) := of_length _ 2 rfl (by decide) (by decide)
theorem adcbDir (d : Byte) : Statement (.adcbDir d) := of_length _ 2 rfl (by decide) (by decide)
theorem orbDir (d : Byte) : Statement (.orbDir d) := of_length _ 2 rfl (by decide) (by decide)
theorem addbDir (d : Byte) : Statement (.addbDir d) := of_length _ 2 rfl (by decide) (by decide)
theorem lddDir (d : Byte) : Statement (.lddDir d) := of_length _ 2 rfl (by decide) (by decide)
theorem stdDir (d : Byte) : Statement (.stdDir d) := of_length _ 2 rfl (by decide) (by decide)
theorem lduDir (d : Byte) : Statement (.lduDir d) := of_length _ 2 rfl (by decide) (by decide)
theorem stuDir (d : Byte) : Statement (.stuDir d) := of_length _ 2 rfl (by decide) (by decide)
theorem subbIdx (ix : Indexed) : Statement (.subbIdx ix) := of_indexed _ [0xE0] ix rfl (by decide)
theorem cmpbIdx (ix : Indexed) : Statement (.cmpbIdx ix) := of_indexed _ [0xE1] ix rfl (by decide)
theorem sbcbIdx (ix : Indexed) : Statement (.sbcbIdx ix) := of_indexed _ [0xE2] ix rfl (by decide)
theorem adddIdx (ix : Indexed) : Statement (.adddIdx ix) := of_indexed _ [0xE3] ix rfl (by decide)
theorem andbIdx (ix : Indexed) : Statement (.andbIdx ix) := of_indexed _ [0xE4] ix rfl (by decide)
theorem bitbIdx (ix : Indexed) : Statement (.bitbIdx ix) := of_indexed _ [0xE5] ix rfl (by decide)
theorem ldbIdx (ix : Indexed) : Statement (.ldbIdx ix) := of_indexed _ [0xE6] ix rfl (by decide)
theorem stbIdx (ix : Indexed) : Statement (.stbIdx ix) := of_indexed _ [0xE7] ix rfl (by decide)
theorem eorbIdx (ix : Indexed) : Statement (.eorbIdx ix) := of_indexed _ [0xE8] ix rfl (by decide)
theorem adcbIdx (ix : Indexed) : Statement (.adcbIdx ix) := of_indexed _ [0xE9] ix rfl (by decide)
theorem orbIdx (ix : Indexed) : Statement (.orbIdx ix) := of_indexed _ [0xEA] ix rfl (by decide)
theorem addbIdx (ix : Indexed) : Statement (.addbIdx ix) := of_indexed _ [0xEB] ix rfl (by decide)
theorem lddIdx (ix : Indexed) : Statement (.lddIdx ix) := of_indexed _ [0xEC] ix rfl (by decide)
theorem stdIdx (ix : Indexed) : Statement (.stdIdx ix) := of_indexed _ [0xED] ix rfl (by decide)
theorem lduIdx (ix : Indexed) : Statement (.lduIdx ix) := of_indexed _ [0xEE] ix rfl (by decide)
theorem stuIdx (ix : Indexed) : Statement (.stuIdx ix) := of_indexed _ [0xEF] ix rfl (by decide)
theorem subbExt (w : Word) : Statement (.subbExt w) := of_length _ 3 rfl (by decide) (by decide)
theorem cmpbExt (w : Word) : Statement (.cmpbExt w) := of_length _ 3 rfl (by decide) (by decide)
theorem sbcbExt (w : Word) : Statement (.sbcbExt w) := of_length _ 3 rfl (by decide) (by decide)
theorem adddExt (w : Word) : Statement (.adddExt w) := of_length _ 3 rfl (by decide) (by decide)
theorem andbExt (w : Word) : Statement (.andbExt w) := of_length _ 3 rfl (by decide) (by decide)
theorem bitbExt (w : Word) : Statement (.bitbExt w) := of_length _ 3 rfl (by decide) (by decide)
theorem ldbExt (w : Word) : Statement (.ldbExt w) := of_length _ 3 rfl (by decide) (by decide)
theorem stbExt (w : Word) : Statement (.stbExt w) := of_length _ 3 rfl (by decide) (by decide)
theorem eorbExt (w : Word) : Statement (.eorbExt w) := of_length _ 3 rfl (by decide) (by decide)
theorem adcbExt (w : Word) : Statement (.adcbExt w) := of_length _ 3 rfl (by decide) (by decide)
theorem orbExt (w : Word) : Statement (.orbExt w) := of_length _ 3 rfl (by decide) (by decide)
theorem addbExt (w : Word) : Statement (.addbExt w) := of_length _ 3 rfl (by decide) (by decide)
theorem lddExt (w : Word) : Statement (.lddExt w) := of_length _ 3 rfl (by decide) (by decide)
theorem stdExt (w : Word) : Statement (.stdExt w) := of_length _ 3 rfl (by decide) (by decide)
theorem lduExt (w : Word) : Statement (.lduExt w) := of_length _ 3 rfl (by decide) (by decide)
theorem stuExt (w : Word) : Statement (.stuExt w) := of_length _ 3 rfl (by decide) (by decide)
theorem lbrn (r : Word) : Statement (.lbrn r) := of_length _ 4 rfl (by decide) (by decide)
theorem lbhi (r : Word) : Statement (.lbhi r) := of_length _ 4 rfl (by decide) (by decide)
theorem lbls (r : Word) : Statement (.lbls r) := of_length _ 4 rfl (by decide) (by decide)
theorem lbcc (r : Word) : Statement (.lbcc r) := of_length _ 4 rfl (by decide) (by decide)
theorem lbcs (r : Word) : Statement (.lbcs r) := of_length _ 4 rfl (by decide) (by decide)
theorem lbne (r : Word) : Statement (.lbne r) := of_length _ 4 rfl (by decide) (by decide)
theorem lbeq (r : Word) : Statement (.lbeq r) := of_length _ 4 rfl (by decide) (by decide)
theorem lbvc (r : Word) : Statement (.lbvc r) := of_length _ 4 rfl (by decide) (by decide)
theorem lbvs (r : Word) : Statement (.lbvs r) := of_length _ 4 rfl (by decide) (by decide)
theorem lbpl (r : Word) : Statement (.lbpl r) := of_length _ 4 rfl (by decide) (by decide)
theorem lbmi (r : Word) : Statement (.lbmi r) := of_length _ 4 rfl (by decide) (by decide)
theorem lbge (r : Word) : Statement (.lbge r) := of_length _ 4 rfl (by decide) (by decide)
theorem lblt (r : Word) : Statement (.lblt r) := of_length _ 4 rfl (by decide) (by decide)
theorem lbgt (r : Word) : Statement (.lbgt r) := of_length _ 4 rfl (by decide) (by decide)
theorem lble (r : Word) : Statement (.lble r) := of_length _ 4 rfl (by decide) (by decide)
theorem cmpdImm (v : Word) : Statement (.cmpdImm v) := of_length _ 4 rfl (by decide) (by decide)
theorem cmpyImm (v : Word) : Statement (.cmpyImm v) := of_length _ 4 rfl (by decide) (by decide)
theorem ldyImm (v : Word) : Statement (.ldyImm v) := of_length _ 4 rfl (by decide) (by decide)
theorem cmpdDir (d : Byte) : Statement (.cmpdDir d) := of_length _ 3 rfl (by decide) (by decide)
theorem cmpyDir (d : Byte) : Statement (.cmpyDir d) := of_length _ 3 rfl (by decide) (by decide)
theorem ldyDir (d : Byte) : Statement (.ldyDir d) := of_length _ 3 rfl (by decide) (by decide)
theorem styDir (d : Byte) : Statement (.styDir d) := of_length _ 3 rfl (by decide) (by decide)
theorem cmpdIdx (ix : Indexed) : Statement (.cmpdIdx ix) := of_indexed _ [0x10, 0xA3] ix rfl (by decide)
theorem cmpyIdx (ix : Indexed) : Statement (.cmpyIdx ix) := of_indexed _ [0x10, 0xAC] ix rfl (by decide)
theorem ldyIdx (ix : Indexed) : Statement (.ldyIdx ix) := of_indexed _ [0x10, 0xAE] ix rfl (by decide)
theorem styIdx (ix : Indexed) : Statement (.styIdx ix) := of_indexed _ [0x10, 0xAF] ix rfl (by decide)
theorem cmpdExt (w : Word) : Statement (.cmpdExt w) := of_length _ 4 rfl (by decide) (by decide)
theorem cmpyExt (w : Word) : Statement (.cmpyExt w) := of_length _ 4 rfl (by decide) (by decide)
theorem ldyExt (w : Word) : Statement (.ldyExt w) := of_length _ 4 rfl (by decide) (by decide)
theorem styExt (w : Word) : Statement (.styExt w) := of_length _ 4 rfl (by decide) (by decide)
theorem ldsImm (v : Word) : Statement (.ldsImm v) := of_length _ 4 rfl (by decide) (by decide)
theorem ldsDir (d : Byte) : Statement (.ldsDir d) := of_length _ 3 rfl (by decide) (by decide)
theorem stsDir (d : Byte) : Statement (.stsDir d) := of_length _ 3 rfl (by decide) (by decide)
theorem ldsIdx (ix : Indexed) : Statement (.ldsIdx ix) := of_indexed _ [0x10, 0xEE] ix rfl (by decide)
theorem stsIdx (ix : Indexed) : Statement (.stsIdx ix) := of_indexed _ [0x10, 0xEF] ix rfl (by decide)
theorem ldsExt (w : Word) : Statement (.ldsExt w) := of_length _ 4 rfl (by decide) (by decide)
theorem stsExt (w : Word) : Statement (.stsExt w) := of_length _ 4 rfl (by decide) (by decide)
theorem cmpuImm (v : Word) : Statement (.cmpuImm v) := of_length _ 4 rfl (by decide) (by decide)
theorem cmpsImm (v : Word) : Statement (.cmpsImm v) := of_length _ 4 rfl (by decide) (by decide)
theorem cmpuDir (d : Byte) : Statement (.cmpuDir d) := of_length _ 3 rfl (by decide) (by decide)
theorem cmpsDir (d : Byte) : Statement (.cmpsDir d) := of_length _ 3 rfl (by decide) (by decide)
theorem cmpuIdx (ix : Indexed) : Statement (.cmpuIdx ix) := of_indexed _ [0x11, 0xA3] ix rfl (by decide)
theorem cmpsIdx (ix : Indexed) : Statement (.cmpsIdx ix) := of_indexed _ [0x11, 0xAC] ix rfl (by decide)
theorem cmpuExt (w : Word) : Statement (.cmpuExt w) := of_length _ 4 rfl (by decide) (by decide)
theorem cmpsExt (w : Word) : Statement (.cmpsExt w) := of_length _ 4 rfl (by decide) (by decide)
theorem nop : Statement .nop := of_length _ 1 rfl (by decide) (by decide)
theorem sync : Statement .sync := of_length _ 1 rfl (by decide) (by decide)
theorem daa : Statement .daa := of_length _ 1 rfl (by decide) (by decide)
theorem sex : Statement .sex := of_length _ 1 rfl (by decide) (by decide)
theorem rts : Statement .rts := of_length _ 1 rfl (by decide) (by decide)
theorem abx : Statement .abx := of_length _ 1 rfl (by decide) (by decide)
theorem rti : Statement .rti := of_length _ 1 rfl (by decide) (by decide)
theorem mul : Statement .mul := of_length _ 1 rfl (by decide) (by decide)
theorem swi : Statement .swi := of_length _ 1 rfl (by decide) (by decide)
theorem nega : Statement .nega := of_length _ 1 rfl (by decide) (by decide)
theorem coma : Statement .coma := of_length _ 1 rfl (by decide) (by decide)
theorem lsra : Statement .lsra := of_length _ 1 rfl (by decide) (by decide)
theorem rora : Statement .rora := of_length _ 1 rfl (by decide) (by decide)
theorem asra : Statement .asra := of_length _ 1 rfl (by decide) (by decide)
theorem asla : Statement .asla := of_length _ 1 rfl (by decide) (by decide)
theorem rola : Statement .rola := of_length _ 1 rfl (by decide) (by decide)
theorem deca : Statement .deca := of_length _ 1 rfl (by decide) (by decide)
theorem inca : Statement .inca := of_length _ 1 rfl (by decide) (by decide)
theorem tsta : Statement .tsta := of_length _ 1 rfl (by decide) (by decide)
theorem clra : Statement .clra := of_length _ 1 rfl (by decide) (by decide)
theorem negb : Statement .negb := of_length _ 1 rfl (by decide) (by decide)
theorem comb : Statement .comb := of_length _ 1 rfl (by decide) (by decide)
theorem lsrb : Statement .lsrb := of_length _ 1 rfl (by decide) (by decide)
theorem rorb : Statement .rorb := of_length _ 1 rfl (by decide) (by decide)
theorem asrb : Statement .asrb := of_length _ 1 rfl (by decide) (by decide)
theorem aslb : Statement .aslb := of_length _ 1 rfl (by decide) (by decide)
theorem rolb : Statement .rolb := of_length _ 1 rfl (by decide) (by decide)
theorem decb : Statement .decb := of_length _ 1 rfl (by decide) (by decide)
theorem incb : Statement .incb := of_length _ 1 rfl (by decide) (by decide)
theorem tstb : Statement .tstb := of_length _ 1 rfl (by decide) (by decide)
theorem clrb : Statement .clrb := of_length _ 1 rfl (by decide) (by decide)
theorem swi2 : Statement .swi2 := of_length _ 2 rfl (by decide) (by decide)
theorem swi3 : Statement .swi3 := of_length _ 2 rfl (by decide) (by decide)

end Sys2Proof.Laws.EncodeLength
end

