-- ==== Sys2Proof/Laws/Pull.lean ====
section
/-! SUPPORT. What the pull side of the stack protocol and the return from an exception can do, in terms of the sequence of
bytes read. -/

namespace Sys2Proof.Machine

open Sys2Proof.Safety

/-- The state after `n` bytes have been pulled from `s`, with registers `g` and the pointer advanced by `n`. -/
def pulled (k : Stack) (s : State) (n : Nat) (g : Regs) : State :=
  { (pullSeq k s n).2 with regs := withSp k g (s.sp k + BitVec.ofNat 16 n) }

theorem pulled_zero (k : Stack) (s : State) : pulled k s 0 s.regs = s := by
  have : withSp k s.regs (s.sp k + BitVec.ofNat 16 0) = s.regs := by cases k <;> simp [withSp, State.sp]
  unfold pulled
  rw [this]
  rfl

/-- Pulling nothing but registers leaves the sequence's end: the pointer is the only register it moves. -/
theorem pulled_self (k : Stack) (s : State) (n : Nat) : pulled k s n s.regs = (pullSeq k s n).2 := by
  have h := (pullSeq_effect k s n).1
  unfold pulled
  rw [← h]

/-- One byte more. -/
theorem pulled_pull8 (k : Stack) (s : State) (n : Nat) (g : Regs) :
    (pulled k s n g).pull8 k = (byteAt (pullSeq k s (n + 1)).1 n, pulled k s (n + 1) g) := by
  have hsp : (pulled k s n g).sp k = (pullSeq k s n).2.sp k := by
    rw [sp_withSp (pulled k s n g) k _ (g := g) rfl, sp_withSp _ k _ (pullSeq_effect k s n).1]
  have hv : (pullSeq k s n).2.sp k = s.sp k + BitVec.ofNat 16 n := sp_withSp _ k _ (pullSeq_effect k s n).1
  have h1 := pullSeq_withRegs k (pullSeq k s n).2 (withSp k g (s.sp k + BitVec.ofNat 16 n)) 1 hsp
  have h2 := pullSeq_add k s n 1
  have hl := (pullSeq_effect k s n).2.2.2.2
  have e1 : ∀ t : State, t.pull8 k = ((pullSeq k t 1).1.getD 0 0, (pullSeq k t 1).2) := fun t => rfl
  have e2 : ∀ t : State, (pullSeq k t 1).1 = [(t.pull8 k).1] := fun t => rfl
  rw [e1]
  have h3 : pulled k s n g = { (pullSeq k s n).2 with regs := withSp k g (s.sp k + BitVec.ofNat 16 n) } := rfl
  rw [h3, h1, h2]
  refine Prod.ext ?_ ?_
  · show (pullSeq k (pullSeq k s n).2 1).1.getD 0 0 =
      ((pullSeq k s n).1 ++ (pullSeq k (pullSeq k s n).2 1).1).getD n 0
    rw [e2, List.getD_append_right _ _ _ _ (by omega), hl, Nat.sub_self]
  · unfold pulled
    rw [h2]
    dsimp only
    rw [withSp_withSp, hv, BitVec.add_assoc, ← BitVec.ofNat_add]

/-- A byte pulled does not depend on how many follow it. -/
theorem byteAt_pullSeq (k : Stack) (s : State) (n m : Nat) (h : n < m) :
    byteAt (pullSeq k s m).1 n = byteAt (pullSeq k s (n + 1)).1 n := by
  obtain ⟨d, rfl⟩ := Nat.exists_eq_add_of_lt h
  have hl := (pullSeq_effect k s (n + 1)).2.2.2.2
  rw [show n + d + 1 = (n + 1) + d from by omega, pullSeq_add]
  exact List.getD_append _ _ _ _ (by omega)

/-- Two bytes more, as a big-endian word. -/
theorem pulled_pull16 (k : Stack) (s : State) (n : Nat) (g : Regs) :
    (pulled k s n g).pull16 k = (wordAt (pullSeq k s (n + 2)).1 n, pulled k s (n + 2) g) := by
  unfold State.pull16
  rw [pulled_pull8]
  dsimp only
  rw [pulled_pull8]
  unfold wordAt
  rw [byteAt_pullSeq k s n (n + 2) (by omega)]

/-- A word pulled does not depend on how many bytes follow it. -/
theorem wordAt_pullSeq (k : Stack) (s : State) (n m : Nat) (h : n + 1 < m) :
    wordAt (pullSeq k s m).1 n = wordAt (pullSeq k s (n + 2)).1 n := by
  unfold wordAt
  rw [byteAt_pullSeq k s n m (by omega), byteAt_pullSeq k s (n + 1) m h, byteAt_pullSeq k s n (n + 2) (by omega)]

/-- A step of a pull: its bytes are taken when its bit is set. -/
theorem whenBit_pulled (mask : Byte) (i w : Nat) (k : Stack) (s : State) (n : Nat) (g g' h : Regs) (f : State → State)
    (hf : f (pulled k s n g) = pulled k s (n + w) g') (h0 : mask.getLsbD i = false → h = g)
    (h1 : mask.getLsbD i = true → h = g') :
    whenBit mask i f (pulled k s n g) = pulled k s (n + w * (mask.getLsbD i).toNat) h := by
  unfold whenBit
  cases hb : mask.getLsbD i
  · rw [h0 hb]; simp
  · rw [h1 hb]
    simp only [if_true, Bool.toNat_true, Nat.mul_one]
    exact hf

theorem pullCC_pulled (k : Stack) (s : State) (n : Nat) (g : Regs) :
    (pulled k s n g).pullCC k = pulled k s (n + 1) { g with cc := byteAt (pullSeq k s (n + 1)).1 n } := by
  unfold State.pullCC
  rw [pulled_pull8]
  cases k <;> rfl

theorem pullA_pulled (k : Stack) (s : State) (n : Nat) (g : Regs) :
    (pulled k s n g).pullA k = pulled k s (n + 1) { g with a := byteAt (pullSeq k s (n + 1)).1 n } := by
  unfold State.pullA
  rw [pulled_pull8]
  cases k <;> rfl

theorem pullB_pulled (k : Stack) (s : State) (n : Nat) (g : Regs) :
    (pulled k s n g).pullB k = pulled k s (n + 1) { g with b := byteAt (pullSeq k s (n + 1)).1 n } := by
  unfold State.pullB
  rw [pulled_pull8]
  cases k <;> rfl

theorem pullDP_pulled (k : Stack) (s : State) (n : Nat) (g : Regs) :
    (pulled k s n g).pullDP k = pulled k s (n + 1) { g with dp := byteAt (pullSeq k s (n + 1)).1 n } := by
  unfold State.pullDP
  rw [pulled_pull8]
  cases k <;> rfl

theorem pullX_pulled (k : Stack) (s : State) (n : Nat) (g : Regs) :
    (pulled k s n g).pullX k = pulled k s (n + 2) { g with x := wordAt (pullSeq k s (n + 2)).1 n } := by
  unfold State.pullX
  rw [pulled_pull16]
  cases k <;> rfl

theorem pullY_pulled (k : Stack) (s : State) (n : Nat) (g : Regs) :
    (pulled k s n g).pullY k = pulled k s (n + 2) { g with y := wordAt (pullSeq k s (n + 2)).1 n } := by
  unfold State.pullY
  rw [pulled_pull16]
  cases k <;> rfl

theorem pullOther_pulled (k : Stack) (s : State) (n : Nat) (g : Regs) :
    (pulled k s n g).pullOther k =
      pulled k s (n + 2) (withSp (otherStack k) g (wordAt (pullSeq k s (n + 2)).1 n)) := by
  unfold State.pullOther
  rw [pulled_pull16]
  cases k <;> rfl

theorem pullPC_pulled (k : Stack) (s : State) (n : Nat) (g : Regs) :
    (pulled k s n g).pullPC k = pulled k s (n + 2) { g with pc := wordAt (pullSeq k s (n + 2)).1 n } := by
  unfold State.pullPC
  rw [pulled_pull16]
  cases k <;> rfl

/-- Where each register's bytes stand: the sums of the lower bits' widths. -/
theorem pullOffset_eq (mask : Byte) :
    pullOffset mask 0 = 0 ∧ pullOffset mask 1 = pullOffset mask 0 + 1 * (mask.getLsbD 0).toNat ∧
    pullOffset mask 2 = pullOffset mask 1 + 1 * (mask.getLsbD 1).toNat ∧
    pullOffset mask 3 = pullOffset mask 2 + 1 * (mask.getLsbD 2).toNat ∧
    pullOffset mask 4 = pullOffset mask 3 + 1 * (mask.getLsbD 3).toNat ∧
    pullOffset mask 5 = pullOffset mask 4 + 2 * (mask.getLsbD 4).toNat ∧
    pullOffset mask 6 = pullOffset mask 5 + 2 * (mask.getLsbD 5).toNat ∧
    pullOffset mask 7 = pullOffset mask 6 + 2 * (mask.getLsbD 6).toNat ∧
    stackBytes mask = pullOffset mask 7 + 2 * (mask.getLsbD 7).toNat := by
  revert mask; decide +kernel

/-- The registers after a pull of a mask from the position `n` of a sequence of bytes, the pointer left aside. -/
def pullFields (k : Stack) (mask : Byte) (bytes : List Byte) (n : Nat) (g : Regs) : Regs :=
  let sel := fun (i : Nat) (old : Byte) => if mask.getLsbD i then byteAt bytes (n + pullOffset mask i) else old
  let selw := fun (i : Nat) (old : Word) => if mask.getLsbD i then wordAt bytes (n + pullOffset mask i) else old
  { cc := sel 0 g.cc
    a := sel 1 g.a
    b := sel 2 g.b
    dp := sel 3 g.dp
    x := selw 4 g.x
    y := selw 5 g.y
    u := if k = .s then selw 6 g.u else g.u
    s := if k = .s then g.s else selw 6 g.s
    pc := selw 7 g.pc }

/-- `PullRegs`, said once: from the position `n` of the bytes read, the registers of the mask, and the end of the reads. -/
theorem pullRegs_pulled (k : Stack) (mask : Byte) (s : State) (n : Nat) (g : Regs) :
    (pulled k s n g).pullRegs k mask =
      pulled k s (n + stackBytes mask) (pullFields k mask (pullSeq k s (n + stackBytes mask)).1 n g) := by
  obtain ⟨o0, o1, o2, o3, o4, o5, o6, o7, o8⟩ := pullOffset_eq mask
  generalize hN : n + stackBytes mask = N
  generalize hL : (pullSeq k s N).1 = bytes
  have tb : ∀ i, mask.getLsbD i = true → (mask.getLsbD i).toNat = 1 := by
    intro i h
    rw [h]
    rfl
  have hb : ∀ m, m + 1 ≤ N → byteAt (pullSeq k s (m + 1)).1 m = byteAt bytes m := by
    intro m h
    rw [← hL, byteAt_pullSeq k s m N h]
  have hw : ∀ m, m + 2 ≤ N → wordAt (pullSeq k s (m + 2)).1 m = wordAt bytes m := by
    intro m h
    rw [← hL, wordAt_pullSeq k s m N h]
  let g0 : Regs := { g with cc := if mask.getLsbD 0 then byteAt bytes (n + pullOffset mask 0) else g.cc }
  let g1 : Regs := { g0 with a := if mask.getLsbD 1 then byteAt bytes (n + pullOffset mask 1) else g.a }
  let g2 : Regs := { g1 with b := if mask.getLsbD 2 then byteAt bytes (n + pullOffset mask 2) else g.b }
  let g3 : Regs := { g2 with dp := if mask.getLsbD 3 then byteAt bytes (n + pullOffset mask 3) else g.dp }
  let g4 : Regs := { g3 with x := if mask.getLsbD 4 then wordAt bytes (n + pullOffset mask 4) else g.x }
  let g5 : Regs := { g4 with y := if mask.getLsbD 5 then wordAt bytes (n + pullOffset mask 5) else g.y }
  let g6 : Regs := withSp (otherStack k) g5
    (if mask.getLsbD 6 then wordAt bytes (n + pullOffset mask 6) else otherSp k g)
  let g7 : Regs := { g6 with pc := if mask.getLsbD 7 then wordAt bytes (n + pullOffset mask 7) else g.pc }
  have s0 : whenBit mask 0 (fun t => t.pullCC k) (pulled k s (n + pullOffset mask 0) g) =
      pulled k s (n + pullOffset mask 1) g0 := by
    rw [o1, ← Nat.add_assoc]
    refine whenBit_pulled mask 0 1 k s _ g _ g0 _ (pullCC_pulled k s _ g) (fun h => ?_) (fun h => ?_)
    · dsimp only [g0]
      rw [if_neg (by rw [h]; decide)]
    · have := tb 0 h
      dsimp only [g0]
      rw [if_pos h, hb _ (by omega)]
  have s1 : whenBit mask 1 (fun t => t.pullA k) (pulled k s (n + pullOffset mask 1) g0) =
      pulled k s (n + pullOffset mask 2) g1 := by
    rw [o2, ← Nat.add_assoc]
    refine whenBit_pulled mask 1 1 k s _ g0 _ g1 _ (pullA_pulled k s _ g0) (fun h => ?_) (fun h => ?_)
    · dsimp only [g1]
      rw [if_neg (by rw [h]; decide)]
    · have := tb 1 h
      dsimp only [g1]
      rw [if_pos h, hb _ (by omega)]
  have s2 : whenBit mask 2 (fun t => t.pullB k) (pulled k s (n + pullOffset mask 2) g1) =
      pulled k s (n + pullOffset mask 3) g2 := by
    rw [o3, ← Nat.add_assoc]
    refine whenBit_pulled mask 2 1 k s _ g1 _ g2 _ (pullB_pulled k s _ g1) (fun h => ?_) (fun h => ?_)
    · dsimp only [g2]
      rw [if_neg (by rw [h]; decide)]
    · have := tb 2 h
      dsimp only [g2]
      rw [if_pos h, hb _ (by omega)]
  have s3 : whenBit mask 3 (fun t => t.pullDP k) (pulled k s (n + pullOffset mask 3) g2) =
      pulled k s (n + pullOffset mask 4) g3 := by
    rw [o4, ← Nat.add_assoc]
    refine whenBit_pulled mask 3 1 k s _ g2 _ g3 _ (pullDP_pulled k s _ g2) (fun h => ?_) (fun h => ?_)
    · dsimp only [g3]
      rw [if_neg (by rw [h]; decide)]
    · have := tb 3 h
      dsimp only [g3]
      rw [if_pos h, hb _ (by omega)]
  have s4 : whenBit mask 4 (fun t => t.pullX k) (pulled k s (n + pullOffset mask 4) g3) =
      pulled k s (n + pullOffset mask 5) g4 := by
    rw [o5, ← Nat.add_assoc]
    refine whenBit_pulled mask 4 2 k s _ g3 _ g4 _ (pullX_pulled k s _ g3) (fun h => ?_) (fun h => ?_)
    · dsimp only [g4]
      rw [if_neg (by rw [h]; decide)]
    · have := tb 4 h
      dsimp only [g4]
      rw [if_pos h, hw _ (by omega)]
  have s5 : whenBit mask 5 (fun t => t.pullY k) (pulled k s (n + pullOffset mask 5) g4) =
      pulled k s (n + pullOffset mask 6) g5 := by
    rw [o6, ← Nat.add_assoc]
    refine whenBit_pulled mask 5 2 k s _ g4 _ g5 _ (pullY_pulled k s _ g4) (fun h => ?_) (fun h => ?_)
    · dsimp only [g5]
      rw [if_neg (by rw [h]; decide)]
    · have := tb 5 h
      dsimp only [g5]
      rw [if_pos h, hw _ (by omega)]
  have s6 : whenBit mask 6 (fun t => t.pullOther k) (pulled k s (n + pullOffset mask 6) g5) =
      pulled k s (n + pullOffset mask 7) g6 := by
    rw [o7, ← Nat.add_assoc]
    refine whenBit_pulled mask 6 2 k s _ g5 _ g6 _ (pullOther_pulled k s _ g5) (fun h => ?_) (fun h => ?_)
    · dsimp only [g6]
      rw [if_neg (by rw [h]; decide)]
      cases k <;> rfl
    · have := tb 6 h
      dsimp only [g6]
      rw [if_pos h, hw _ (by omega)]
  have s7 : whenBit mask 7 (fun t => t.pullPC k) (pulled k s (n + pullOffset mask 7) g6) =
      pulled k s (n + stackBytes mask) g7 := by
    rw [o8, ← Nat.add_assoc]
    refine whenBit_pulled mask 7 2 k s _ g6 _ g7 _ (pullPC_pulled k s _ g6) (fun h => ?_) (fun h => ?_)
    · dsimp only [g7]
      rw [if_neg (by rw [h]; decide)]
      cases k <;> rfl
    · have := tb 7 h
      dsimp only [g7]
      rw [if_pos h, hw _ (by omega)]
  have z : pulled k s n g = pulled k s (n + pullOffset mask 0) g := by rw [o0, Nat.add_zero]
  unfold State.pullRegs
  rw [z, s0, s1, s2, s3, s4, s5, s6, s7, hN]
  congr 1
  cases k <;> rfl

/-- `PullRegs` from a state: the registers of the mask and the pointer, and the end of the reads. -/
theorem pullRegs_eq (k : Stack) (mask : Byte) (s : State) :
    s.pullRegs k mask =
      { (pullSeq k s (stackBytes mask)).2 with
        regs := pulledRegs k mask (pullSeq k s (stackBytes mask)).1 s.regs } := by
  have h := pullRegs_pulled k mask s 0 s.regs
  rw [pulled_zero, Nat.zero_add] at h
  rw [h]
  unfold pulled
  generalize (pullSeq k s (stackBytes mask)).1 = bytes
  unfold pullFields pulledRegs
  simp only [Nat.zero_add]
  cases k <;> rfl

/-- RTI from a state: by bit 7 of the first byte, the full frame or CC and PC. -/
theorem returnFromException_eq (s : State) :
    s.returnFromException =
      if ((s.readByte s.regs.s).1).getLsbD 7 then
        State.addCyc (pulled .s s 12 (pullFields .s 0xFE (pullSeq .s s 12).1 1
          { s.regs with cc := byteAt (pullSeq .s s 1).1 0 })) 9
      else pulled .s s 3 { s.regs with cc := byteAt (pullSeq .s s 1).1 0, pc := wordAt (pullSeq .s s 3).1 1 } := by
  have h0 : s.pullCC .s = pulled .s s 1 { s.regs with cc := byteAt (pullSeq .s s 1).1 0 } := by
    have h := pullCC_pulled .s s 0 s.regs
    rw [pulled_zero] at h
    exact h
  unfold State.returnFromException
  dsimp only
  rw [h0]
  have hf : (pulled .s s 1 { s.regs with cc := byteAt (pullSeq .s s 1).1 0 }).flag .e =
      ((s.readByte s.regs.s).1).getLsbD 7 := rfl
  rw [hf, pullPC_pulled, pullRegs_pulled]
  rfl

end Sys2Proof.Machine
end

