-- ==== Sys2Proof/Laws/Sequencer.lean ====
section
/-! SUPPORT. What the sequencer's events and inputs leave alone, and the device part of the invariant: RAM's canonical form
and the latches that agree with their lines, kept by every bus access, event and input. -/

namespace Sys2Proof.Machine

open Sys2Proof.Safety

/-- The VSYNC check of a master tick: the event where it is due, else nothing (60 R650). -/
theorem piaVsyncTick_eq (s : State) : s.piaVsyncTick = if s.vsyncDue then s.piaVsyncEvent else s := by
  unfold State.piaVsyncTick State.piaVsyncEvent
  cases s.vsyncDue <;> simp

/-- An event changes the two latches and the two lines only. -/
theorem gimeEvent_eq (s : State) (k : GimeEv) :
    s.gimeEvent k =
      { s with
        gime := { s.gime with irqFlags := (s.gimeEvent k).gime.irqFlags, firqFlags := (s.gimeEvent k).gime.firqFlags }
        lines := { s.lines with irq := (s.gimeEvent k).lines.irq, firq := (s.gimeEvent k).lines.firq } } := by
  unfold State.gimeEvent
  cases s.irqEnabled k <;> cases s.firqEnabled k <;> rfl

/-- A decrement of the timer changes the counter, the blink flag, the latches and the lines only. -/
theorem timerDecrement_eq (s : State) :
    s.timerDecrement =
      { s with gime := s.timerDecrement.gime, lines := s.timerDecrement.lines } := by
  unfold State.timerDecrement
  split
  · rfl
  · split
    · unfold State.timerExpire
      rw [gimeEvent_eq]
      rfl
    · rfl

/-- The slow timer's part of a line wrap. -/
theorem lineWrapEvents_def (s : State) :
    s.lineWrapEvents =
      (fun u : State => if u.seq.scanline = Config.vbordLine then u.gimeEvent .vbord else u)
        (if s.timerFast then s else s.timerDecrement) := by
  unfold State.lineWrapEvents State.piaFrameWrap
  rw [ite_self]

theorem lineWrapEvents_eq (s : State) :
    s.lineWrapEvents = { s with gime := s.lineWrapEvents.gime, lines := s.lineWrapEvents.lines } := by
  have h1 : ∀ u : State, u = { s with gime := u.gime, lines := u.lines } →
      (fun u : State => if u.seq.scanline = Config.vbordLine then u.gimeEvent .vbord else u) u =
        { s with
          gime := ((fun u : State => if u.seq.scanline = Config.vbordLine then u.gimeEvent .vbord else u) u).gime
          lines := ((fun u : State => if u.seq.scanline = Config.vbordLine then u.gimeEvent .vbord else u) u).lines } := by
    intro u hu
    dsimp only
    split
    · rw [gimeEvent_eq, hu]
    · exact hu
  rw [lineWrapEvents_def]
  refine h1 _ ?_
  split
  · rfl
  · exact timerDecrement_eq s

theorem fastTimerTick_eq (s : State) :
    s.fastTimerTick = { s with gime := s.fastTimerTick.gime, lines := s.fastTimerTick.lines } := by
  unfold State.fastTimerTick
  split
  · exact timerDecrement_eq s
  · rfl

/-- An input changes no counter, no ROM image, no parameter, no pending cycles and no soft halt. -/
theorem envInput_kept (s : State) (e : EnvInput) :
    (s.envInput e).seq = s.seq ∧ (s.envInput e).platform = s.platform ∧ (s.envInput e).pending = s.pending ∧
      (s.envInput e).halt = s.halt ∧ (s.envInput e).regs.cc = s.regs.cc ∧ (s.envInput e).pia = s.pia ∧
      (s.envInput e).params = s.params := by
  cases e with
  | line l b => cases l <;> exact ⟨rfl, rfl, rfl, rfl, rfl, rfl, rfl⟩
  | gime k =>
    show (s.gimeEvent _).seq = _ ∧ (s.gimeEvent _).platform = _ ∧ (s.gimeEvent _).pending = _ ∧
      (s.gimeEvent _).halt = _ ∧ (s.gimeEvent _).regs.cc = _ ∧ (s.gimeEvent _).pia = _ ∧ (s.gimeEvent _).params = _
    rw [gimeEvent_eq]
    exact ⟨rfl, rfl, rfl, rfl, rfl, rfl, rfl⟩
  | hwHalt b => exact ⟨rfl, rfl, rfl, rfl, rfl, rfl, rfl⟩
  | hostReset => exact ⟨rfl, rfl, rfl, rfl, rfl, rfl, rfl⟩
  | forcePC a => exact ⟨rfl, rfl, rfl, rfl, rfl, rfl, rfl⟩
  | loadByte p v => exact ⟨rfl, rfl, rfl, rfl, rfl, rfl, rfl⟩

theorem periphAct_kept (s : State) (e : PeriphAction) :
    (s.periphAct e).seq = s.seq ∧ (s.periphAct e).platform = s.platform ∧ (s.periphAct e).pending = s.pending ∧
      (s.periphAct e).halt = s.halt ∧ (s.periphAct e).regs = s.regs ∧ (s.periphAct e).pia = s.pia ∧
      (s.periphAct e).params = s.params := by
  cases e <;> exact ⟨rfl, rfl, rfl, rfl, rfl, rfl, rfl⟩

/-- The inputs of a tick change what a chain of single inputs changes. -/
theorem foldl_keeps {α : Type} (P : State → Prop) (f : State → α → State) (hf : ∀ s a, P s → P (f s a)) (l : List α)
    (s : State) (h : P s) : P (l.foldl f s) := by
  induction l generalizing s with
  | nil => exact h
  | cons a rest ih => exact ih (f s a) (hf s a h)

theorem applyEnv_kept (s : State) :
    s.applyEnv.seq = s.seq ∧ s.applyEnv.platform = s.platform ∧ s.applyEnv.pending = s.pending ∧
      s.applyEnv.halt = s.halt ∧ s.applyEnv.regs.cc = s.regs.cc ∧ s.applyEnv.pia = s.pia ∧
      s.applyEnv.params = s.params := by
  unfold State.applyEnv
  split
  · exact ⟨rfl, rfl, rfl, rfl, rfl, rfl, rfl⟩
  · refine foldl_keeps (fun t => t.seq = s.seq ∧ t.platform = s.platform ∧ t.pending = s.pending ∧ t.halt = s.halt ∧
      t.regs.cc = s.regs.cc ∧ t.pia = s.pia ∧ t.params = s.params) _ (fun t e h => ?_) _ _ ⟨rfl, rfl, rfl, rfl, rfl, rfl, rfl⟩
    obtain ⟨h1, h2, h3, h4, h5, h6, h7⟩ := envInput_kept t e
    exact ⟨h1.trans h.1, h2.trans h.2.1, h3.trans h.2.2.1, h4.trans h.2.2.2.1, h5.trans h.2.2.2.2.1,
      h6.trans h.2.2.2.2.2.1, h7.trans h.2.2.2.2.2.2⟩

theorem pollPeripherals_kept (s : State) :
    s.pollPeripherals.seq = s.seq ∧ s.pollPeripherals.platform = s.platform ∧ s.pollPeripherals.pending = s.pending ∧
      s.pollPeripherals.halt = s.halt ∧ s.pollPeripherals.regs = s.regs ∧ s.pollPeripherals.pia = s.pia ∧
      s.pollPeripherals.params = s.params := by
  unfold State.pollPeripherals
  split
  · exact ⟨rfl, rfl, rfl, rfl, rfl, rfl, rfl⟩
  · refine foldl_keeps (fun t => t.seq = s.seq ∧ t.platform = s.platform ∧ t.pending = s.pending ∧ t.halt = s.halt ∧
      t.regs = s.regs ∧ t.pia = s.pia ∧ t.params = s.params) _ (fun t e h => ?_) _ _ ⟨rfl, rfl, rfl, rfl, rfl, rfl, rfl⟩
    obtain ⟨h1, h2, h3, h4, h5, h6, h7⟩ := periphAct_kept t e
    exact ⟨h1.trans h.1, h2.trans h.2.1, h3.trans h.2.2.1, h4.trans h.2.2.2.1, h5.trans h.2.2.2.2.1,
      h6.trans h.2.2.2.2.2.1, h7.trans h.2.2.2.2.2.2⟩

/-- The sequencer's part of a master tick advances the counters and leaves the CPU alone. -/
theorem sequence_kept (s : State) :
    s.sequence.seq = nextCounters s.seq ∧ s.sequence.platform = s.platform ∧ s.sequence.pending = s.pending ∧
      s.sequence.halt = s.halt ∧ s.sequence.regs = s.regs ∧ s.sequence.params = s.params := by
  unfold State.sequence
  dsimp only
  obtain ⟨h1, h2, h3, h4, h5, _, h6⟩ := pollPeripherals_kept
    (State.fastTimerTick (State.piaVsyncTick
      (if s.seq.dot + 1 = Config.dotsPerLine then s.advanceCounters.lineWrapEvents else s.advanceCounters)))
  rw [h1, h2, h3, h4, h5, h6, fastTimerTick_eq]
  split
  · rw [lineWrapEvents_eq]
    exact ⟨rfl, rfl, rfl, rfl, rfl, rfl⟩
  · exact ⟨rfl, rfl, rfl, rfl, rfl, rfl⟩

/-! The device part of the invariant. -/

/-- RAM in its canonical form and inside the installed size, and the latches agreeing with their lines. -/
structure DevicesAgree (s : State) : Prop where
  ram : s.ram.wf = true
  inside : s.ramInside = true
  irqLatch : IrqLatchAgrees s
  firqLatch : FirqLatchAgrees s
  vsync : s.lines.irq.pia0Vsync = (s.pia.vsyncFlag && s.pia.crb.getLsbD 0)

/-- A state with the same RAM, latches and lines. -/
theorem devicesAgree_of_eq {s t : State} (h : DevicesAgree s) (hr : t.ram = s.ram) (hg : t.gime = s.gime)
    (hl : t.lines = s.lines) (hp : t.pia = s.pia) (hq : t.params = s.params) : DevicesAgree t := by
  obtain ⟨h1, h0, h2, h3, h4⟩ := h
  refine ⟨by rw [hr]; exact h1, by unfold State.ramInside; rw [hr, hq]; exact h0, ?_, ?_, by rw [hl, hp]; exact h4⟩
  · unfold IrqLatchAgrees at *; rw [hg, hl]; exact h2
  · unfold FirqLatchAgrees at *; rw [hg, hl]; exact h3

theorem devicesAgree_ackVsync {s : State} (h : DevicesAgree s) : DevicesAgree s.ackVsync :=
  ⟨h.ram, h.inside, h.irqLatch, h.firqLatch, rfl⟩

theorem devicesAgree_ackGimeIrq {s : State} (h : DevicesAgree s) : DevicesAgree s.ackGimeIrq :=
  ⟨h.ram, h.inside, by simp [IrqLatchAgrees, State.ackGimeIrq], h.firqLatch, h.vsync⟩

theorem devicesAgree_ackGimeFirq {s : State} (h : DevicesAgree s) : DevicesAgree s.ackGimeFirq :=
  ⟨h.ram, h.inside, h.irqLatch, by simp [FirqLatchAgrees, State.ackGimeFirq], h.vsync⟩

theorem devicesAgree_afterReads {s : State} (h : DevicesAgree s) (v q f : Bool) (n : Nat) :
    DevicesAgree (afterReads v q f n s) := by
  have step : ∀ (b : Bool) (g : State → State), (∀ u, DevicesAgree u → DevicesAgree (g u)) → ∀ u, DevicesAgree u →
      DevicesAgree (if b then g u else u) := by
    intro b g hg u hu
    cases b
    · exact hu
    · exact hg u hu
  have h1 := step v State.ackVsync (fun _ => devicesAgree_ackVsync) s h
  have h2 := step q State.ackGimeIrq (fun _ => devicesAgree_ackGimeIrq) _ h1
  have h3 := step f State.ackGimeFirq (fun _ => devicesAgree_ackGimeFirq) _ h2
  exact devicesAgree_of_eq h3 rfl rfl rfl rfl rfl

/-- Every bus read keeps it. -/
theorem devicesAgree_readByte {s : State} (h : DevicesAgree s) (a : Word) : DevicesAgree (s.readByte a).2 := by
  obtain ⟨v, q, f, n, e⟩ := readByte_state s a
  rw [e]
  exact devicesAgree_afterReads h v q f n

/-- Every bus write keeps it. -/
theorem devicesAgree_writeByte {s : State} (h : DevicesAgree s) (a : Word) (v : Byte) : DevicesAgree (s.writeByte a v) := by
  have hw := wf_writeByte s a v h.ram
  have hi := ramInside_writeByte s a v h.inside
  by_cases h0 : a.toNat < 0xFF00
  · rw [writeByte_plain s a v h0] at hw hi ⊢
    exact ⟨hw, hi, h.irqLatch, h.firqLatch, h.vsync⟩
  by_cases h1 : 0xFFE0 ≤ a.toNat
  · rw [writeByte_vector s a v h1]; exact h
  have e : s.writeByte a v = s.ioWrite a v := by
    unfold State.writeByte
    rw [if_neg h1, if_pos (by omega)]
  rw [e]
  unfold State.ioWrite
  cases ioReg s.params a with
  | pia0 sel =>
    dsimp only
    split
    · exact devicesAgree_of_eq h rfl rfl rfl rfl rfl |> fun k => ⟨k.ram, k.inside, k.irqLatch, k.firqLatch, k.vsync⟩
    · exact devicesAgree_of_eq h rfl rfl rfl rfl rfl |> fun k => ⟨k.ram, k.inside, k.irqLatch, k.firqLatch, k.vsync⟩
    · exact devicesAgree_of_eq h rfl rfl rfl rfl rfl |> fun k => ⟨k.ram, k.inside, k.irqLatch, k.firqLatch, k.vsync⟩
    · refine ⟨h.ram, h.inside, h.irqLatch, h.firqLatch, ?_⟩
      show (v.getLsbD 0 && s.pia.vsyncFlag) = (s.pia.vsyncFlag && (v.extractLsb' 0 6).getLsbD 0)
      rw [Bool.and_comm]
      simp
  | _ => exact ⟨h.ram, h.inside, h.irqLatch, h.firqLatch, h.vsync⟩

/-- Every GIME event keeps it: the latch bit and the source bit are set together. -/
theorem devicesAgree_gimeEvent {s : State} (h : DevicesAgree s) (k : GimeEv) : DevicesAgree (s.gimeEvent k) := by
  have hi : ∀ u : State, DevicesAgree u → DevicesAgree (u.raiseIrq k) := by
    intro u hu
    refine ⟨hu.ram, hu.inside, ?_, hu.firqLatch, ?_⟩
    · obtain ⟨a1, a2, a3, a4, a5⟩ := hu.irqLatch
      unfold IrqLatchAgrees State.raiseIrq
      cases k with
      | env e => cases e <;> simp_all [putBit, gimeBit, envGimeBit, IrqSources.raise]
      | _ => simp_all [putBit, gimeBit, IrqSources.raise]
    · have := hu.vsync
      cases k <;> simpa [State.raiseIrq, IrqSources.raise] using this
  have hf : ∀ u : State, DevicesAgree u → DevicesAgree (u.raiseFirq k) := by
    intro u hu
    refine ⟨hu.ram, hu.inside, hu.irqLatch, ?_, hu.vsync⟩
    obtain ⟨a1, a2, a3, a4, a5⟩ := hu.firqLatch
    unfold FirqLatchAgrees State.raiseFirq
    cases k with
    | env e => cases e <;> simp_all [putBit, gimeBit, envGimeBit, FirqSources.raise]
    | _ => simp_all [putBit, gimeBit, FirqSources.raise]
  unfold State.gimeEvent
  cases s.irqEnabled k <;> cases s.firqEnabled k
  · exact h
  · exact hf _ h
  · exact hi _ h
  · exact hf _ (hi _ h)

theorem devicesAgree_timerDecrement {s : State} (h : DevicesAgree s) : DevicesAgree s.timerDecrement := by
  unfold State.timerDecrement
  split
  · exact h
  · split
    · have h1 : DevicesAgree ((s.setTimerCount (timerReload s.gime.timerValue)).toggleBlink) :=
        ⟨h.ram, h.inside, h.irqLatch, h.firqLatch, h.vsync⟩
      exact devicesAgree_gimeEvent h1 .tmr
    · exact ⟨h.ram, h.inside, h.irqLatch, h.firqLatch, h.vsync⟩

theorem devicesAgree_piaVsyncTick {s : State} (h : DevicesAgree s) : DevicesAgree s.piaVsyncTick := by
  refine ⟨h.ram, h.inside, h.irqLatch, h.firqLatch, ?_⟩
  show (s.lines.irq.pia0Vsync || (s.pia.crb.getLsbD 0 && s.vsyncDue)) =
    ((s.pia.vsyncFlag || s.vsyncDue) && s.pia.crb.getLsbD 0)
  rw [h.vsync]
  cases s.pia.vsyncFlag <;> cases s.vsyncDue <;> cases s.pia.crb.getLsbD 0 <;> rfl

theorem devicesAgree_envInput {s : State} (h : DevicesAgree s) (e : EnvInput) : DevicesAgree (s.envInput e) := by
  cases e with
  | line l b => cases l <;> exact ⟨h.ram, h.inside, h.irqLatch, h.firqLatch, h.vsync⟩
  | gime k => exact devicesAgree_gimeEvent h (.env k)
  | loadByte p v => exact ⟨wf_physWrite s p v h.ram, ramInside_physWrite s p v h.inside, h.irqLatch, h.firqLatch, h.vsync⟩
  | _ => exact ⟨h.ram, h.inside, h.irqLatch, h.firqLatch, h.vsync⟩

theorem devicesAgree_periphAct {s : State} (h : DevicesAgree s) (e : PeriphAction) : DevicesAgree (s.periphAct e) := by
  cases e with
  | physWrite p v => exact ⟨wf_physWrite s p v h.ram, ramInside_physWrite s p v h.inside, h.irqLatch, h.firqLatch, h.vsync⟩
  | _ => exact ⟨h.ram, h.inside, h.irqLatch, h.firqLatch, h.vsync⟩

/-- Everything of a master tick before the CPU keeps it. -/
theorem devicesAgree_sequence {s : State} (h : DevicesAgree s) : DevicesAgree s.applyEnv.sequence := by
  have h1 : DevicesAgree s.applyEnv := by
    unfold State.applyEnv
    split
    · exact h
    · exact foldl_keeps DevicesAgree _ (fun t e ht => devicesAgree_envInput ht e) _ _
        ⟨h.ram, h.inside, h.irqLatch, h.firqLatch, h.vsync⟩
  generalize s.applyEnv = u at h1
  have h2 : DevicesAgree u.advanceCounters := ⟨h1.ram, h1.inside, h1.irqLatch, h1.firqLatch, h1.vsync⟩
  have h3 : ∀ w, DevicesAgree w → DevicesAgree w.lineWrapEvents := by
    intro w hw
    rw [lineWrapEvents_def]
    have h4 : DevicesAgree (if w.timerFast then w else w.timerDecrement) := by
      split
      · exact hw
      · exact devicesAgree_timerDecrement hw
    generalize (if w.timerFast then w else w.timerDecrement) = x at h4
    dsimp only
    split
    · exact devicesAgree_gimeEvent h4 .vbord
    · exact h4
  unfold State.sequence
  dsimp only
  have h5 : DevicesAgree
      (if u.seq.dot + 1 = Config.dotsPerLine then u.advanceCounters.lineWrapEvents else u.advanceCounters) := by
    split
    · exact h3 _ h2
    · exact h2
  have h6 := devicesAgree_piaVsyncTick h5
  have h7 : ∀ w, DevicesAgree w → DevicesAgree w.fastTimerTick := by
    intro w hw
    unfold State.fastTimerTick
    split
    · exact devicesAgree_timerDecrement hw
    · exact hw
  have h8 := h7 _ h6
  generalize State.fastTimerTick _ = w at h8
  unfold State.pollPeripherals
  split
  · exact h8
  · exact foldl_keeps DevicesAgree _ (fun t e ht => devicesAgree_periphAct ht e) _ _
      ⟨h8.ram, h8.inside, h8.irqLatch, h8.firqLatch, h8.vsync⟩

end Sys2Proof.Machine
end

