-- ==== Sys2Proof/Tests/Slice0.lean ====
section
/-! SUPPORT. The model's own tests: the well-formedness checks, decoding of every opcode's bytes as the maps give them, one
step on small states with the results of spec/95_test_vectors.md, and a witness for the hypotheses of every statement. -/

namespace Sys2Proof.Tests

open Sys2Proof.Machine Sys2Proof.Safety

/-! Well-formedness: an ill-formed term for each check, refused. -/

theorem test_wf_offset5_has_no_indirect_form : (Instr.ldaIdx ⟨.off5 .x 3, true⟩).wf = false := rfl

theorem test_wf_extended_is_always_indirect : (Instr.ldaIdx ⟨.ext 0x2000, false⟩).wf = false := rfl

theorem test_wf_accepts_both_in_their_only_form :
    (Instr.ldaIdx ⟨.off5 .x 3, false⟩).wf = true ∧ (Instr.stsIdx ⟨.ext 0x2000, true⟩).wf = true := ⟨rfl, rfl⟩

/-! Decoding. The bytes are those of the opcode maps (30 R138 to R140) and of the operand layouts (30 R130, R158 to R174). -/

/-- Every instruction of page 1, row 00 of the opcode map. -/
theorem test_decode_page1_row0 :
    [[0x00, 0x9A], [0x03, 0x9A], [0x04, 0x9A], [0x06, 0x9A], [0x07, 0x9A], [0x08, 0x9A], [0x09, 0x9A], [0x0A, 0x9A],
      [0x0C, 0x9A], [0x0D, 0x9A], [0x0E, 0x9A], [0x0F, 0x9A]].map decode =
      [.instr (.negDir 0x9A) false [], .instr (.comDir 0x9A) false [], .instr (.lsrDir 0x9A) false [],
        .instr (.rorDir 0x9A) false [], .instr (.asrDir 0x9A) false [], .instr (.aslDir 0x9A) false [],
        .instr (.rolDir 0x9A) false [], .instr (.decDir 0x9A) false [], .instr (.incDir 0x9A) false [],
        .instr (.tstDir 0x9A) false [], .instr (.jmpDir 0x9A) false [], .instr (.clrDir 0x9A) false []] :=
  rfl

/-- Every instruction of page 1, row 10 of the opcode map. -/
theorem test_decode_page1_row1 :
    [[0x12], [0x13], [0x16, 0x92, 0x34], [0x17, 0x92, 0x34], [0x19], [0x1A, 0x9A], [0x1C, 0x9A], [0x1D],
      [0x1E, 0x8B], [0x1F, 0x8B]].map decode =
      [.instr .nop false [], .instr .sync false [], .instr (.lbra 0x9234) false [], .instr (.lbsr 0x9234) false [],
        .instr .daa false [], .instr (.orcc 0x9A) false [], .instr (.andcc 0x9A) false [], .instr .sex false [],
        .instr (.exg 0x8 0xB) false [], .instr (.tfr 0x8 0xB) false []] :=
  rfl

/-- Every instruction of page 1, row 20 of the opcode map. -/
theorem test_decode_page1_row2 :
    [[0x20, 0x9A], [0x21, 0x9A], [0x22, 0x9A], [0x23, 0x9A], [0x24, 0x9A], [0x25, 0x9A], [0x26, 0x9A], [0x27, 0x9A],
      [0x28, 0x9A], [0x29, 0x9A], [0x2A, 0x9A], [0x2B, 0x9A], [0x2C, 0x9A], [0x2D, 0x9A], [0x2E, 0x9A], [0x2F, 0x9A]].map decode =
      [.instr (.bra 0x9A) false [], .instr (.brn 0x9A) false [], .instr (.bhi 0x9A) false [],
        .instr (.bls 0x9A) false [], .instr (.bcc 0x9A) false [], .instr (.bcs 0x9A) false [],
        .instr (.bne 0x9A) false [], .instr (.beq 0x9A) false [], .instr (.bvc 0x9A) false [],
        .instr (.bvs 0x9A) false [], .instr (.bpl 0x9A) false [], .instr (.bmi 0x9A) false [],
        .instr (.bge 0x9A) false [], .instr (.blt 0x9A) false [], .instr (.bgt 0x9A) false [],
        .instr (.ble 0x9A) false []] :=
  rfl

/-- Every instruction of page 1, row 30 of the opcode map. -/
theorem test_decode_page1_row3 :
    [[0x30, 0x84], [0x31, 0xA0], [0x32, 0xC1], [0x33, 0xE2], [0x34, 0x96], [0x35, 0x96], [0x36, 0x96], [0x37, 0x96],
      [0x39], [0x3A], [0x3B], [0x3C, 0x9A], [0x3D], [0x3F]].map decode =
      [.instr (.leax ⟨.zero .x, false⟩) false [], .instr (.leay ⟨.postInc1 .y, false⟩) false [],
        .instr (.leas ⟨.postInc2 .u, false⟩) false [], .instr (.leau ⟨.preDec1 .s, false⟩) false [],
        .instr (.pshs 0x96) false [], .instr (.puls 0x96) false [], .instr (.pshu 0x96) false [],
        .instr (.pulu 0x96) false [], .instr .rts false [], .instr .abx false [], .instr .rti false [],
        .instr (.cwai 0x9A) false [], .instr .mul false [], .instr .swi false []] :=
  rfl

/-- Every instruction of page 1, row 40 of the opcode map. -/
theorem test_decode_page1_row4 :
    [[0x40], [0x43], [0x44], [0x46], [0x47], [0x48], [0x49], [0x4A], [0x4C], [0x4D], [0x4F]].map decode =
      [.instr .nega false [], .instr .coma false [], .instr .lsra false [], .instr .rora false [],
        .instr .asra false [], .instr .asla false [], .instr .rola false [], .instr .deca false [],
        .instr .inca false [], .instr .tsta false [], .instr .clra false []] :=
  rfl

/-- Every instruction of page 1, row 50 of the opcode map. -/
theorem test_decode_page1_row5 :
    [[0x50], [0x53], [0x54], [0x56], [0x57], [0x58], [0x59], [0x5A], [0x5C], [0x5D], [0x5F]].map decode =
      [.instr .negb false [], .instr .comb false [], .instr .lsrb false [], .instr .rorb false [],
        .instr .asrb false [], .instr .aslb false [], .instr .rolb false [], .instr .decb false [],
        .instr .incb false [], .instr .tstb false [], .instr .clrb false []] :=
  rfl

/-- Every instruction of page 1, row 60 of the opcode map. -/
theorem test_decode_page1_row6 :
    [[0x60, 0xA3], [0x63, 0x1F], [0x64, 0x70], [0x66, 0x95], [0x67, 0xC6], [0x68, 0xAB], [0x69, 0xE8, 0x80],
      [0x6A, 0x99, 0x12, 0x34], [0x6C, 0x8C, 0xFE], [0x6D, 0x9D, 0x00, 0x10], [0x6E, 0x9F, 0x20, 0x00], [0x6F, 0xD1]].map decode =
      [.instr (.negIdx ⟨.preDec2 .y, false⟩) false [], .instr (.comIdx ⟨.off5 .x 0x1F, false⟩) false [],
        .instr (.lsrIdx ⟨.off5 .s 0x10, false⟩) false [], .instr (.rorIdx ⟨.accB .x, true⟩) false [],
        .instr (.asrIdx ⟨.accA .u, false⟩) false [], .instr (.aslIdx ⟨.accD .y, false⟩) false [],
        .instr (.rolIdx ⟨.off8 .s 0x80, false⟩) false [], .instr (.decIdx ⟨.off16 .x 0x1234, true⟩) false [],
        .instr (.incIdx ⟨.pcr8 0xFE, false⟩) false [], .instr (.tstIdx ⟨.pcr16 0x0010, true⟩) false [],
        .instr (.jmpIdx ⟨.ext 0x2000, true⟩) false [], .instr (.clrIdx ⟨.postInc2 .u, true⟩) false []] :=
  rfl

/-- Every instruction of page 1, row 70 of the opcode map. -/
theorem test_decode_page1_row7 :
    [[0x70, 0x92, 0x34], [0x73, 0x92, 0x34], [0x74, 0x92, 0x34], [0x76, 0x92, 0x34], [0x77, 0x92, 0x34],
      [0x78, 0x92, 0x34], [0x79, 0x92, 0x34], [0x7A, 0x92, 0x34], [0x7C, 0x92, 0x34], [0x7D, 0x92, 0x34],
      [0x7E, 0x92, 0x34], [0x7F, 0x92, 0x34]].map decode =
      [.instr (.negExt 0x9234) false [], .instr (.comExt 0x9234) false [], .instr (.lsrExt 0x9234) false [],
        .instr (.rorExt 0x9234) false [], .instr (.asrExt 0x9234) false [], .instr (.aslExt 0x9234) false [],
        .instr (.rolExt 0x9234) false [], .instr (.decExt 0x9234) false [], .instr (.incExt 0x9234) false [],
        .instr (.tstExt 0x9234) false [], .instr (.jmpExt 0x9234) false [], .instr (.clrExt 0x9234) false []] :=
  rfl

/-- Every instruction of page 1, row 80 (columns 0 to 7) of the opcode map. -/
theorem test_decode_page1_row8_low :
    [[0x80, 0x9A], [0x81, 0x9A], [0x82, 0x9A], [0x83, 0x92, 0x34], [0x84, 0x9A], [0x85, 0x9A], [0x86, 0x9A]].map decode =
      [.instr (.subaImm 0x9A) false [], .instr (.cmpaImm 0x9A) false [], .instr (.sbcaImm 0x9A) false [],
        .instr (.subdImm 0x9234) false [], .instr (.andaImm 0x9A) false [], .instr (.bitaImm 0x9A) false [],
        .instr (.ldaImm 0x9A) false []] :=
  rfl

/-- Every instruction of page 1, row 80 (columns 8 to F) of the opcode map. -/
theorem test_decode_page1_row8_high :
    [[0x88, 0x9A], [0x89, 0x9A], [0x8A, 0x9A], [0x8B, 0x9A], [0x8C, 0x92, 0x34], [0x8D, 0x9A], [0x8E, 0x92, 0x34]].map decode =
      [.instr (.eoraImm 0x9A) false [], .instr (.adcaImm 0x9A) false [], .instr (.oraImm 0x9A) false [],
        .instr (.addaImm 0x9A) false [], .instr (.cmpxImm 0x9234) false [], .instr (.bsr 0x9A) false [],
        .instr (.ldxImm 0x9234) false []] :=
  rfl

/-- Every instruction of page 1, row 90 (columns 0 to 7) of the opcode map. -/
theorem test_decode_page1_row9_low :
    [[0x90, 0x9A], [0x91, 0x9A], [0x92, 0x9A], [0x93, 0x9A], [0x94, 0x9A], [0x95, 0x9A], [0x96, 0x9A], [0x97, 0x9A]].map decode =
      [.instr (.subaDir 0x9A) false [], .instr (.cmpaDir 0x9A) false [], .instr (.sbcaDir 0x9A) false [],
        .instr (.subdDir 0x9A) false [], .instr (.andaDir 0x9A) false [], .instr (.bitaDir 0x9A) false [],
        .instr (.ldaDir 0x9A) false [], .instr (.staDir 0x9A) false []] :=
  rfl

/-- Every instruction of page 1, row 90 (columns 8 to F) of the opcode map. -/
theorem test_decode_page1_row9_high :
    [[0x98, 0x9A], [0x99, 0x9A], [0x9A, 0x9A], [0x9B, 0x9A], [0x9C, 0x9A], [0x9D, 0x9A], [0x9E, 0x9A], [0x9F, 0x9A]].map decode =
      [.instr (.eoraDir 0x9A) false [], .instr (.adcaDir 0x9A) false [], .instr (.oraDir 0x9A) false [],
        .instr (.addaDir 0x9A) false [], .instr (.cmpxDir 0x9A) false [], .instr (.jsrDir 0x9A) false [],
        .instr (.ldxDir 0x9A) false [], .instr (.stxDir 0x9A) false []] :=
  rfl

/-- Every instruction of page 1, row A0 (columns 0 to 7) of the opcode map. -/
theorem test_decode_page1_rowA_low :
    [[0xA0, 0xB4], [0xA1, 0x84], [0xA2, 0xA0], [0xA3, 0xC1], [0xA4, 0xE2], [0xA5, 0xA3], [0xA6, 0x1F], [0xA7, 0x70]].map decode =
      [.instr (.subaIdx ⟨.zero .y, true⟩) false [], .instr (.cmpaIdx ⟨.zero .x, false⟩) false [],
        .instr (.sbcaIdx ⟨.postInc1 .y, false⟩) false [], .instr (.subdIdx ⟨.postInc2 .u, false⟩) false [],
        .instr (.andaIdx ⟨.preDec1 .s, false⟩) false [], .instr (.bitaIdx ⟨.preDec2 .y, false⟩) false [],
        .instr (.ldaIdx ⟨.off5 .x 0x1F, false⟩) false [], .instr (.staIdx ⟨.off5 .s 0x10, false⟩) false []] :=
  rfl

/-- Every instruction of page 1, row A0 (columns 8 to F) of the opcode map. -/
theorem test_decode_page1_rowA_high :
    [[0xA8, 0x95], [0xA9, 0xC6], [0xAA, 0xAB], [0xAB, 0xE8, 0x80], [0xAC, 0x99, 0x12, 0x34], [0xAD, 0x8C, 0xFE],
      [0xAE, 0x9D, 0x00, 0x10], [0xAF, 0x9F, 0x20, 0x00]].map decode =
      [.instr (.eoraIdx ⟨.accB .x, true⟩) false [], .instr (.adcaIdx ⟨.accA .u, false⟩) false [],
        .instr (.oraIdx ⟨.accD .y, false⟩) false [], .instr (.addaIdx ⟨.off8 .s 0x80, false⟩) false [],
        .instr (.cmpxIdx ⟨.off16 .x 0x1234, true⟩) false [], .instr (.jsrIdx ⟨.pcr8 0xFE, false⟩) false [],
        .instr (.ldxIdx ⟨.pcr16 0x0010, true⟩) false [], .instr (.stxIdx ⟨.ext 0x2000, true⟩) false []] :=
  rfl

/-- Every instruction of page 1, row B0 (columns 0 to 7) of the opcode map. -/
theorem test_decode_page1_rowB_low :
    [[0xB0, 0x92, 0x34], [0xB1, 0x92, 0x34], [0xB2, 0x92, 0x34], [0xB3, 0x92, 0x34], [0xB4, 0x92, 0x34],
      [0xB5, 0x92, 0x34], [0xB6, 0x92, 0x34], [0xB7, 0x92, 0x34]].map decode =
      [.instr (.subaExt 0x9234) false [], .instr (.cmpaExt 0x9234) false [], .instr (.sbcaExt 0x9234) false [],
        .instr (.subdExt 0x9234) false [], .instr (.andaExt 0x9234) false [], .instr (.bitaExt 0x9234) false [],
        .instr (.ldaExt 0x9234) false [], .instr (.staExt 0x9234) false []] :=
  rfl

/-- Every instruction of page 1, row B0 (columns 8 to F) of the opcode map. -/
theorem test_decode_page1_rowB_high :
    [[0xB8, 0x92, 0x34], [0xB9, 0x92, 0x34], [0xBA, 0x92, 0x34], [0xBB, 0x92, 0x34], [0xBC, 0x92, 0x34],
      [0xBD, 0x92, 0x34], [0xBE, 0x92, 0x34], [0xBF, 0x92, 0x34]].map decode =
      [.instr (.eoraExt 0x9234) false [], .instr (.adcaExt 0x9234) false [], .instr (.oraExt 0x9234) false [],
        .instr (.addaExt 0x9234) false [], .instr (.cmpxExt 0x9234) false [], .instr (.jsrExt 0x9234) false [],
        .instr (.ldxExt 0x9234) false [], .instr (.stxExt 0x9234) false []] :=
  rfl

/-- Every instruction of page 1, row C0 (columns 0 to 7) of the opcode map. -/
theorem test_decode_page1_rowC_low :
    [[0xC0, 0x9A], [0xC1, 0x9A], [0xC2, 0x9A], [0xC3, 0x92, 0x34], [0xC4, 0x9A], [0xC5, 0x9A], [0xC6, 0x9A]].map decode =
      [.instr (.subbImm 0x9A) false [], .instr (.cmpbImm 0x9A) false [], .instr (.sbcbImm 0x9A) false [],
        .instr (.adddImm 0x9234) false [], .instr (.andbImm 0x9A) false [], .instr (.bitbImm 0x9A) false [],
        .instr (.ldbImm 0x9A) false []] :=
  rfl

/-- Every instruction of page 1, row C0 (columns 8 to F) of the opcode map. -/
theorem test_decode_page1_rowC_high :
    [[0xC8, 0x9A], [0xC9, 0x9A], [0xCA, 0x9A], [0xCB, 0x9A], [0xCC, 0x92, 0x34], [0xCE, 0x92, 0x34]].map decode =
      [.instr (.eorbImm 0x9A) false [], .instr (.adcbImm 0x9A) false [], .instr (.orbImm 0x9A) false [],
        .instr (.addbImm 0x9A) false [], .instr (.lddImm 0x9234) false [], .instr (.lduImm 0x9234) false []] :=
  rfl

/-- Every instruction of page 1, row D0 (columns 0 to 7) of the opcode map. -/
theorem test_decode_page1_rowD_low :
    [[0xD0, 0x9A], [0xD1, 0x9A], [0xD2, 0x9A], [0xD3, 0x9A], [0xD4, 0x9A], [0xD5, 0x9A], [0xD6, 0x9A], [0xD7, 0x9A]].map decode =
      [.instr (.subbDir 0x9A) false [], .instr (.cmpbDir 0x9A) false [], .instr (.sbcbDir 0x9A) false [],
        .instr (.adddDir 0x9A) false [], .instr (.andbDir 0x9A) false [], .instr (.bitbDir 0x9A) false [],
        .instr (.ldbDir 0x9A) false [], .instr (.stbDir 0x9A) false []] :=
  rfl

/-- Every instruction of page 1, row D0 (columns 8 to F) of the opcode map. -/
theorem test_decode_page1_rowD_high :
    [[0xD8, 0x9A], [0xD9, 0x9A], [0xDA, 0x9A], [0xDB, 0x9A], [0xDC, 0x9A], [0xDD, 0x9A], [0xDE, 0x9A], [0xDF, 0x9A]].map decode =
      [.instr (.eorbDir 0x9A) false [], .instr (.adcbDir 0x9A) false [], .instr (.orbDir 0x9A) false [],
        .instr (.addbDir 0x9A) false [], .instr (.lddDir 0x9A) false [], .instr (.stdDir 0x9A) false [],
        .instr (.lduDir 0x9A) false [], .instr (.stuDir 0x9A) false []] :=
  rfl

/-- Every instruction of page 1, row E0 (columns 0 to 7) of the opcode map. -/
theorem test_decode_page1_rowE_low :
    [[0xE0, 0xD1], [0xE1, 0xB4], [0xE2, 0x84], [0xE3, 0xA0], [0xE4, 0xC1], [0xE5, 0xE2], [0xE6, 0xA3], [0xE7, 0x1F]].map decode =
      [.instr (.subbIdx ⟨.postInc2 .u, true⟩) false [], .instr (.cmpbIdx ⟨.zero .y, true⟩) false [],
        .instr (.sbcbIdx ⟨.zero .x, false⟩) false [], .instr (.adddIdx ⟨.postInc1 .y, false⟩) false [],
        .instr (.andbIdx ⟨.postInc2 .u, false⟩) false [], .instr (.bitbIdx ⟨.preDec1 .s, false⟩) false [],
        .instr (.ldbIdx ⟨.preDec2 .y, false⟩) false [], .instr (.stbIdx ⟨.off5 .x 0x1F, false⟩) false []] :=
  rfl

/-- Every instruction of page 1, row E0 (columns 8 to F) of the opcode map. -/
theorem test_decode_page1_rowE_high :
    [[0xE8, 0x70], [0xE9, 0x95], [0xEA, 0xC6], [0xEB, 0xAB], [0xEC, 0xE8, 0x80], [0xED, 0x99, 0x12, 0x34],
      [0xEE, 0x8C, 0xFE], [0xEF, 0x9D, 0x00, 0x10]].map decode =
      [.instr (.eorbIdx ⟨.off5 .s 0x10, false⟩) false [], .instr (.adcbIdx ⟨.accB .x, true⟩) false [],
        .instr (.orbIdx ⟨.accA .u, false⟩) false [], .instr (.addbIdx ⟨.accD .y, false⟩) false [],
        .instr (.lddIdx ⟨.off8 .s 0x80, false⟩) false [], .instr (.stdIdx ⟨.off16 .x 0x1234, true⟩) false [],
        .instr (.lduIdx ⟨.pcr8 0xFE, false⟩) false [], .instr (.stuIdx ⟨.pcr16 0x0010, true⟩) false []] :=
  rfl

/-- Every instruction of page 1, row F0 (columns 0 to 7) of the opcode map. -/
theorem test_decode_page1_rowF_low :
    [[0xF0, 0x92, 0x34], [0xF1, 0x92, 0x34], [0xF2, 0x92, 0x34], [0xF3, 0x92, 0x34], [0xF4, 0x92, 0x34],
      [0xF5, 0x92, 0x34], [0xF6, 0x92, 0x34], [0xF7, 0x92, 0x34]].map decode =
      [.instr (.subbExt 0x9234) false [], .instr (.cmpbExt 0x9234) false [], .instr (.sbcbExt 0x9234) false [],
        .instr (.adddExt 0x9234) false [], .instr (.andbExt 0x9234) false [], .instr (.bitbExt 0x9234) false [],
        .instr (.ldbExt 0x9234) false [], .instr (.stbExt 0x9234) false []] :=
  rfl

/-- Every instruction of page 1, row F0 (columns 8 to F) of the opcode map. -/
theorem test_decode_page1_rowF_high :
    [[0xF8, 0x92, 0x34], [0xF9, 0x92, 0x34], [0xFA, 0x92, 0x34], [0xFB, 0x92, 0x34], [0xFC, 0x92, 0x34],
      [0xFD, 0x92, 0x34], [0xFE, 0x92, 0x34], [0xFF, 0x92, 0x34]].map decode =
      [.instr (.eorbExt 0x9234) false [], .instr (.adcbExt 0x9234) false [], .instr (.orbExt 0x9234) false [],
        .instr (.addbExt 0x9234) false [], .instr (.lddExt 0x9234) false [], .instr (.stdExt 0x9234) false [],
        .instr (.lduExt 0x9234) false [], .instr (.stuExt 0x9234) false []] :=
  rfl

/-- Every instruction of page 2, row 20 of the opcode map. -/
theorem test_decode_page2_row2 :
    [[0x10, 0x21, 0x92, 0x34], [0x10, 0x22, 0x92, 0x34], [0x10, 0x23, 0x92, 0x34], [0x10, 0x24, 0x92, 0x34],
      [0x10, 0x25, 0x92, 0x34], [0x10, 0x26, 0x92, 0x34], [0x10, 0x27, 0x92, 0x34], [0x10, 0x28, 0x92, 0x34],
      [0x10, 0x29, 0x92, 0x34], [0x10, 0x2A, 0x92, 0x34], [0x10, 0x2B, 0x92, 0x34], [0x10, 0x2C, 0x92, 0x34],
      [0x10, 0x2D, 0x92, 0x34], [0x10, 0x2E, 0x92, 0x34], [0x10, 0x2F, 0x92, 0x34]].map decode =
      [.instr (.lbrn 0x9234) false [], .instr (.lbhi 0x9234) false [], .instr (.lbls 0x9234) false [],
        .instr (.lbcc 0x9234) false [], .instr (.lbcs 0x9234) false [], .instr (.lbne 0x9234) false [],
        .instr (.lbeq 0x9234) false [], .instr (.lbvc 0x9234) false [], .instr (.lbvs 0x9234) false [],
        .instr (.lbpl 0x9234) false [], .instr (.lbmi 0x9234) false [], .instr (.lbge 0x9234) false [],
        .instr (.lblt 0x9234) false [], .instr (.lbgt 0x9234) false [], .instr (.lble 0x9234) false []] :=
  rfl

/-- Every instruction of page 2, row 30 of the opcode map. -/
theorem test_decode_page2_row3 :
    [[0x10, 0x3F]].map decode =
      [.instr .swi2 false []] :=
  rfl

/-- Every instruction of page 2, row 80 of the opcode map. -/
theorem test_decode_page2_row8 :
    [[0x10, 0x83, 0x92, 0x34], [0x10, 0x8C, 0x92, 0x34], [0x10, 0x8E, 0x92, 0x34]].map decode =
      [.instr (.cmpdImm 0x9234) false [], .instr (.cmpyImm 0x9234) false [], .instr (.ldyImm 0x9234) false []] :=
  rfl

/-- Every instruction of page 2, row 90 of the opcode map. -/
theorem test_decode_page2_row9 :
    [[0x10, 0x93, 0x9A], [0x10, 0x9C, 0x9A], [0x10, 0x9E, 0x9A], [0x10, 0x9F, 0x9A]].map decode =
      [.instr (.cmpdDir 0x9A) false [], .instr (.cmpyDir 0x9A) false [], .instr (.ldyDir 0x9A) false [],
        .instr (.styDir 0x9A) false []] :=
  rfl

/-- Every instruction of page 2, row A0 of the opcode map. -/
theorem test_decode_page2_rowA :
    [[0x10, 0xA3, 0x9F, 0x20, 0x00], [0x10, 0xAC, 0xD1], [0x10, 0xAE, 0xB4], [0x10, 0xAF, 0x84]].map decode =
      [.instr (.cmpdIdx ⟨.ext 0x2000, true⟩) false [], .instr (.cmpyIdx ⟨.postInc2 .u, true⟩) false [],
        .instr (.ldyIdx ⟨.zero .y, true⟩) false [], .instr (.styIdx ⟨.zero .x, false⟩) false []] :=
  rfl

/-- Every instruction of page 2, row B0 of the opcode map. -/
theorem test_decode_page2_rowB :
    [[0x10, 0xB3, 0x92, 0x34], [0x10, 0xBC, 0x92, 0x34], [0x10, 0xBE, 0x92, 0x34], [0x10, 0xBF, 0x92, 0x34]].map decode =
      [.instr (.cmpdExt 0x9234) false [], .instr (.cmpyExt 0x9234) false [], .instr (.ldyExt 0x9234) false [],
        .instr (.styExt 0x9234) false []] :=
  rfl

/-- Every instruction of page 2, row C0 of the opcode map. -/
theorem test_decode_page2_rowC :
    [[0x10, 0xCE, 0x92, 0x34]].map decode =
      [.instr (.ldsImm 0x9234) false []] :=
  rfl

/-- Every instruction of page 2, row D0 of the opcode map. -/
theorem test_decode_page2_rowD :
    [[0x10, 0xDE, 0x9A], [0x10, 0xDF, 0x9A]].map decode =
      [.instr (.ldsDir 0x9A) false [], .instr (.stsDir 0x9A) false []] :=
  rfl

/-- Every instruction of page 2, row E0 of the opcode map. -/
theorem test_decode_page2_rowE :
    [[0x10, 0xEE, 0xA0], [0x10, 0xEF, 0xC1]].map decode =
      [.instr (.ldsIdx ⟨.postInc1 .y, false⟩) false [], .instr (.stsIdx ⟨.postInc2 .u, false⟩) false []] :=
  rfl

/-- Every instruction of page 2, row F0 of the opcode map. -/
theorem test_decode_page2_rowF :
    [[0x10, 0xFE, 0x92, 0x34], [0x10, 0xFF, 0x92, 0x34]].map decode =
      [.instr (.ldsExt 0x9234) false [], .instr (.stsExt 0x9234) false []] :=
  rfl

/-- Every instruction of page 3, row 30 of the opcode map. -/
theorem test_decode_page3_row3 :
    [[0x11, 0x3F]].map decode =
      [.instr .swi3 false []] :=
  rfl

/-- Every instruction of page 3, row 80 of the opcode map. -/
theorem test_decode_page3_row8 :
    [[0x11, 0x83, 0x92, 0x34], [0x11, 0x8C, 0x92, 0x34]].map decode =
      [.instr (.cmpuImm 0x9234) false [], .instr (.cmpsImm 0x9234) false []] :=
  rfl

/-- Every instruction of page 3, row 90 of the opcode map. -/
theorem test_decode_page3_row9 :
    [[0x11, 0x93, 0x9A], [0x11, 0x9C, 0x9A]].map decode =
      [.instr (.cmpuDir 0x9A) false [], .instr (.cmpsDir 0x9A) false []] :=
  rfl

/-- Every instruction of page 3, row A0 of the opcode map. -/
theorem test_decode_page3_rowA :
    [[0x11, 0xA3, 0xE2], [0x11, 0xAC, 0xA3]].map decode =
      [.instr (.cmpuIdx ⟨.preDec1 .s, false⟩) false [], .instr (.cmpsIdx ⟨.preDec2 .y, false⟩) false []] :=
  rfl

/-- Every instruction of page 3, row B0 of the opcode map. -/
theorem test_decode_page3_rowB :
    [[0x11, 0xB3, 0x92, 0x34], [0x11, 0xBC, 0x92, 0x34]].map decode =
      [.instr (.cmpuExt 0x9234) false [], .instr (.cmpsExt 0x9234) false []] :=
  rfl

/-- Undefined opcodes of page 1, and a prefix after a prefix (30 R134, R136). -/
theorem test_decode_invalid :
    [[0x01, 0x00], [0x38, 0x00], [0x87, 0x00], [0xCD, 0x00], [0x10, 0x10], [0x11, 0x10], [0x10, 0x01]].map decode =
      [.invalidOpcode [0x00], .invalidOpcode [0x00], .invalidOpcode [0x00], .invalidOpcode [0x00], .invalidOpcode [],
        .invalidOpcode [], .invalidOpcode []] :=
  rfl

/-- Undefined postbytes (30 R170; V-X29 to V-X34). -/
theorem test_decode_illegal_postbytes :
    [[0xA6, 0x87], [0xA6, 0x8A], [0xA6, 0x8E], [0xA6, 0x8F], [0xA6, 0x97], [0xA6, 0xAF]].map decode =
      [.illegalIndexed [], .illegalIndexed [], .illegalIndexed [], .illegalIndexed [], .illegalIndexed [],
        .illegalIndexed []] :=
  rfl

/-- A prefix without a row falls back to page 1 (30 R133; V-A30). -/
theorem test_decode_fallback :
    decode [0x10, 0x8B, 0x01] = .instr (.addaImm 0x01) true [] ∧ decode [0x11, 0x12] = .instr .nop true [] := ⟨rfl, rfl⟩

/-- The words of the opcode table, a page-2 row with its prefix in the high half. -/
theorem test_table_words :
    decodeTableWord 8 0x86 = some (.ldaImm 0) ∧ decodeTableWord 16 0x1021 = some (.lbrn 0) ∧
      decodeTableWord 8 0x01 = none := ⟨rfl, rfl, rfl⟩

/-! One step on a small state: all-RAM, MMU off, so that a logical address below 0xFF00 is RAM at 0x70000 plus it. -/

/-- The registers of the vectors' conventions. -/
def regs0 : Regs := { a := 0, b := 0, dp := 0, cc := 0, x := 0, y := 0, u := 0, s := 0x8000, pc := 0x1000 }

/-- The machine of the vectors' conventions, with these registers and these bytes at logical addresses. -/
def small (g : Regs) (bytes : List (Nat × Byte)) : State :=
  { State.reset with
    regs := g
    sam := 0x8000
    lines := { State.reset.lines with resetHost := false }
    ram := bytes.foldl (fun m p => ramWrite m (0x70000 + p.1) p.2) [] }

/-- The state after a step of the CPU; the start state where it stops. -/
def afterStep (s : State) : State :=
  match s.cpuStep with
  | .next t => t
  | .fault _ => s
  | .refused _ => s

/-- PC, CC and cycles after a step. -/
def summary (s : State) : Word × Byte × Nat := ((afterStep s).regs.pc, (afterStep s).regs.cc, (afterStep s).cyc)

/-- V-A1: ADDA #$01 with A = 7F. -/
theorem test_adda_overflow :
    summary (small { regs0 with a := 0x7F } [(0x1000, 0x8B), (0x1001, 0x01)]) = (0x1002, 0x2A, 2) := by decide

/-- V-A10: SBCA #$7F with A = FF and C = 1. -/
theorem test_sbca_borrow :
    summary (small { regs0 with a := 0xFF, cc := 0x01 } [(0x1000, 0x82), (0x1001, 0x7F)]) = (0x1002, 0x02, 2) := by
  decide

/-- V-A24: MUL 0C by 64. -/
theorem test_mul :
    (afterStep (small { regs0 with a := 0x0C, b := 0x64 } [(0x1000, 0x3D)])).d = 0x04B0 ∧
      summary (small { regs0 with a := 0x0C, b := 0x64 } [(0x1000, 0x3D)]) = (0x1001, 0x01, 11) := by decide

/-- V-A20: DAA with A = 9A; V is a free value. -/
theorem test_daa :
    (afterStep (small { regs0 with a := 0x9A } [(0x1000, 0x19)])).regs.a = 0x00 ∧
      ∀ v, (daa8 0x9A false false v).fl = { n := some false, z := some true, v := some v, c := some true } := by decide

/-- V-W8: CMPY #$8000 with Y = 7FFF. -/
theorem test_cmpy :
    summary (small { regs0 with y := 0x7FFF } [(0x1000, 0x10), (0x1001, 0x8C), (0x1002, 0x80)]) =
      (0x1004, 0x0B, 5) := by decide

/-- V-L11: STS ,--S stores the value after the decrement. -/
theorem test_sts_predec :
    let t := afterStep (small regs0 [(0x1000, 0x10), (0x1001, 0xEF), (0x1002, 0xE3)])
    t.regs.s = 0x7FFE ∧ t.physRead 0x77FFE = 0x7F ∧ t.physRead 0x77FFF = 0xFE ∧ t.cyc = 9 := by decide

/-- V-L15 and V-L18: LEAX ,X+ keeps X; LEAX ,Y+ advances Y. -/
theorem test_leax_self_and_other :
    (afterStep (small { regs0 with x := 0x2000 } [(0x1000, 0x30), (0x1001, 0x80)])).regs.x = 0x2000 ∧
      (afterStep (small { regs0 with y := 0x2000 } [(0x1000, 0x30), (0x1001, 0xA0)])).regs.y = 0x2001 := by decide

/-- V-L21, V-L24: TFR A,X and TFR 6,X. -/
theorem test_tfr_widths :
    (afterStep (small { regs0 with a := 0x12 } [(0x1000, 0x1F), (0x1001, 0x81)])).regs.x = 0xFF12 ∧
      (afterStep (small { regs0 with x := 0x1234 } [(0x1000, 0x1F), (0x1001, 0x61)])).regs.x = 0xFFFF := by decide

/-- V-L31: EXG X,PC. -/
theorem test_exg_x_pc :
    let t := afterStep (small { regs0 with x := 0x4000 } [(0x1000, 0x1E), (0x1001, 0x15)])
    t.regs.x = 0x1002 ∧ t.regs.pc = 0x4000 ∧ t.cyc = 8 := by decide

/-- V-U34: ROLA of 80 with C = 1. -/
theorem test_rola :
    (afterStep (small { regs0 with a := 0x80, cc := 0x01 } [(0x1000, 0x49)])).regs.a = 0x01 ∧
      summary (small { regs0 with a := 0x80, cc := 0x01 } [(0x1000, 0x49)]) = (0x1001, 0x03, 2) := by decide

/-- V-U57: INC <$10 with DP = 30 and 7F at 3010. -/
theorem test_inc_direct :
    let s := small { regs0 with dp := 0x30 } [(0x1000, 0x0C), (0x1001, 0x10), (0x3010, 0x7F)]
    (afterStep s).physRead 0x73010 = 0x80 ∧ summary s = (0x1002, 0x0A, 6) := by decide

/-- V-B3: LBEQ taken costs one cycle more. -/
theorem test_lbeq_taken :
    summary (small { regs0 with cc := 0x04 } [(0x1000, 0x10), (0x1001, 0x27), (0x1002, 0x01)]) = (0x1104, 0x04, 6) := by
  decide

/-- V-B11: JSR [,S++] reads its target before it pushes. -/
theorem test_jsr_pulls_its_target :
    let s := small { regs0 with s := 0x7FFE } [(0x1000, 0xAD), (0x1001, 0xF1), (0x7FFE, 0x30)]
    (afterStep s).regs.s = 0x7FFE ∧ (afterStep s).physRead 0x77FFE = 0x10 ∧ summary s = (0x3000, 0x00, 13) := by decide

/-- V-X24: LDA [,--X] reads through the pointer at 1FFE. -/
theorem test_lda_indirect_predec :
    let s := small { regs0 with x := 0x2000 }
      [(0x1000, 0xA6), (0x1001, 0x93), (0x1FFE, 0x30), (0x1FFF, 0x10), (0x3010, 0xAB)]
    (afterStep s).regs.a = 0xAB ∧ (afterStep s).regs.x = 0x1FFE ∧ (afterStep s).cyc = 10 := by decide

/-- V-S1: PSHS A,B,X. -/
theorem test_pshs :
    let t := afterStep (small { regs0 with a := 0x12, b := 0x34, x := 0x5678 } [(0x1000, 0x34), (0x1001, 0x16)])
    t.regs.s = 0x7FFC ∧ [t.physRead 0x77FFC, t.physRead 0x77FFD, t.physRead 0x77FFE, t.physRead 0x77FFF] =
      [0x12, 0x34, 0x56, 0x78] ∧ t.cyc = 9 := by decide

/-- V-S6: PULS CC,PC. -/
theorem test_puls :
    let s := small { regs0 with s := 0x7FFD } [(0x1000, 0x35), (0x1001, 0x81), (0x7FFD, 0xFF), (0x7FFE, 0x20)]
    (afterStep s).regs.s = 0x8000 ∧ summary s = (0x2000, 0xFF, 8) := by decide

/-- V-S11 and V-S12: RTI with E = 0 and with E = 1. -/
theorem test_rti :
    summary (small { regs0 with s := 0x7FFD } [(0x1000, 0x3B), (0x7FFE, 0x12), (0x7FFF, 0x34)]) = (0x1234, 0x00, 6) ∧
      summary (small { regs0 with s := 0x7FF4 } [(0x1000, 0x3B), (0x7FF4, 0x80), (0x7FFE, 0x12), (0x7FFF, 0x34)]) =
        (0x1234, 0x80, 15) := by decide

/-- V-S13: CWAI #$EF with CC = 50. -/
theorem test_cwai :
    let t := afterStep (small { regs0 with cc := 0x50 } [(0x1000, 0x3C), (0x1001, 0xEF)])
    t.halt = .cwaiWait ∧ t.regs.s = 0x7FF4 ∧ t.regs.cc = 0xC0 ∧ t.physRead 0x77FF4 = 0xC0 ∧ t.cyc = 20 := by decide

/-- An internal ROM of 16 bytes: the vector of address 0xFFF0 + k is at the image's offset k, by the modulo of 20 R94. -/
def vectors : List Byte :=
  [0xFF, 0xFF, 0xB5, 0x00, 0xB4, 0x00, 0xB2, 0x00, 0xB1, 0x00, 0xB3, 0x00, 0xB0, 0x00, 0x20, 0x00]

/-- A small machine with the vectors of the conventions. -/
def withVectors (s : State) : State := { s with platform := { internalRom := vectors, externalRom := [] } }

/-- V-I18: SWI sets I and F and takes the vector at FFFA. -/
theorem test_swi : summary (withVectors (small regs0 [(0x1000, 0x3F)])) = (0xB300, 0xD0, 19) := by decide

/-- The EXT sources of the lines. -/
def withLines (s : State) (nmi firq irq reset : Bool) : State :=
  { s with
    lines :=
      { nmiExt := nmi
        firq := { s.lines.firq with ext := firq }
        irq := { s.lines.irq with ext := irq }
        resetHost := reset } }

/-- V-I1, V-I2, V-I3: IRQ, FIRQ (E = 1 before), NMI (F = I = 1 before), each with the handler's NOP. -/
theorem test_interrupts :
    summary (withLines (withVectors (small regs0 [(0xB100, 0x12)])) false false true false) = (0xB101, 0x90, 21) ∧
      summary (withLines (withVectors (small { regs0 with cc := 0x80 } [(0xB200, 0x12)])) false true false false) =
        (0xB201, 0x50, 12) ∧
      summary (withLines (withVectors (small { regs0 with cc := 0x50 } [(0xB000, 0x12)])) true false false false) =
        (0xB001, 0xD0, 21) :=
  ⟨by decide, by decide, by decide⟩

/-- V-M10: MMU on, bank 4 = 3C: logical 8005 reads the internal ROM at offset 5. -/
theorem test_rom_bank :
    ((((State.reset.writeByte 0xFF90 0x40).writeByte 0xFFA4 0x3C) |> withVectors).readByte 0x8005).1 = 0x00 ∧
      ((((State.reset.writeByte 0xFF90 0x40).writeByte 0xFFA4 0x3C) |> withVectors).readByte 0x8002).1 = 0xB5 := by decide

/-- The small machine with other parameters. -/
def withParams (s : State) (q : Params) : State := { s with params := q }

/-- V-M13: 128 KiB of RAM, the MMU on and bank 0 = 25: logical 0001 is physical 0A001, and the byte stored there reads back. -/
theorem test_ram_size_wraps_the_bank :
    let s := (withParams State.reset { Config.defaults with ramBits := 17 }).writeByte 0xFF90 0x40
    let t := (s.writeByte 0xFFA0 0x25).writeByte 0x0001 0x5A
    s.params.ramSize = 0x20000 ∧ t.storeAddr 0x0001 = some 0x0A001 ∧ t.ram = [(0x0A001, 0x5A)] ∧
      (t.readByte 0x0001).1 = 0x5A := by decide

/-- V-M9, and a window whose peripheral is absent: both read FF and ignore a write (20 R97); a present one draws. -/
theorem test_undefined_and_absent_read_ff :
    let q := { Config.defaults with peripheralWindows := [{ first := 0xFF40, last := 0xFF5F, present := false }] }
    let s := withParams State.reset q
    State.reset.readByte 0xFF60 = (0xFF, State.reset) ∧ s.readByte 0xFF40 = (0xFF, s) ∧ s.writeByte 0xFF5F 0x12 = s ∧
      (State.reset.readByte 0xFF40).2.draws = 1 := ⟨rfl, rfl, rfl, rfl⟩

/-- `ILLEGAL_INDEXED` (U2): the model's fault by default, the refusal of the program by the other value. -/
theorem test_illegal_indexed_policies :
    let s := small regs0 [(0x1000, 0xA6), (0x1001, 0x87)]
    s.cpuStep = .fault .illegalIndexed ∧
      (withParams s { Config.defaults with illegalIndexed := .refuse }).cpuStep = .refused .illegalIndexed := ⟨rfl, rfl⟩

/-- `RESET_FIRST` and `RESET_INIT_CC_DP` (D16, D17): RESET before a pending NMI, with I = F = 1 and DP = 0, 2 cycles. -/
theorem test_reset_parameters :
    let q := { Config.defaults with resetFirst := true, resetInitCcDp := true }
    let s := withParams (withLines (withVectors (small { regs0 with dp := 0x30 } [])) true true true true) q
    let t := s.interruptCheck
    t.regs.pc = 0x2000 ∧ t.regs.cc = 0x50 ∧ t.regs.dp = 0 ∧ t.lines.nmiExt = true ∧ t.lines.resetHost = false ∧
      t.cyc = 2 := by decide

/-- `CYCLES`: a figure the installation lists replaces the table's (LDD direct, 5; LDS direct with its prefix). -/
theorem test_cycles_parameter :
    let s := withParams State.reset { Config.defaults with cycles := [(0x10DE, 9)] }
    s.rowCycles (.ldsDir 0x20) = 9 ∧ s.rowCycles (.lddDir 0x20) = 5 ∧ State.reset.rowCycles (.ldsDir 0x20) = 6 := by
  decide

/-- V-M15: the read of FF92 acknowledges the GIME sources and keeps EXT_IRQ. -/
theorem test_acknowledge :
    let s := withLines
      { State.reset with
        gime := { State.reset.gime with irqFlags := 0x28 }
        lines := { State.reset.lines with irq := { State.reset.lines.irq with gimeTmr := true, gimeVbord := true } } }
      false false true false
    (s.readByte 0xFF92).1 = 0x28 ∧ (s.readByte 0xFF92).2.gime.irqFlags = 0 ∧
      (s.readByte 0xFF92).2.lines.irq =
        { pia0Vsync := false, gimeTmr := false, gimeVbord := false, gimeEnv := false, ext := true } := by decide

/-- V-I19: with the hardware halt a tick changes nothing. -/
theorem test_hwHalt_freezes :
    ({ small regs0 [] with hwHalt := true, pending := 3 }).cpuTick =
      .next { small regs0 [] with hwHalt := true, pending := 3 } := rfl

/-- The host's placing: the next step after withFetchWord runs LDA #0 from reset. -/
theorem test_withFetchWord_runs :
    ∃ t, step (State.reset.withFetchWord 8 0x86) = .next t ∧ t.regs.pc = 2 ∧ t.pending = 1 ∧ t.flag .z = true :=
  ⟨_, rfl, by decide, by decide, by decide⟩

/-! Witnesses of the statements' hypotheses, one or more per statement that has any. -/

/-- O1: well-formed instructions of both forms that the check decides on. -/
theorem witness_decode_of_encode :
    (Instr.ldaIdx ⟨.off5 .s 0x10, false⟩).wf = true ∧ (Instr.stsIdx ⟨.ext 0xFFFF, true⟩).wf = true ∧
      Instr.nop.wf = true := by decide

/-- O3: an instruction whose opcode neither page has. -/
theorem witness_prefix_fallback :
    (Instr.addaImm 0x01).wf = true ∧ encode (.addaImm 0x01) = 0x8B :: [0x01] ∧ (0x8B : Byte) ≠ 0x10 ∧
      (0x8B : Byte) ≠ 0x11 ∧ ¬ Mapped (0x1000 + (0x8B : Byte).toNat) ∧ ¬ Mapped (0x1100 + (0x8B : Byte).toNat) := by
  decide +kernel

/-- O3: the maps have 221, 38 and 9 rows (30 R135); the bytes outside the page-1 map are those that 30 R138 lists. -/
theorem witness_opcode_maps :
    opcodeMap1.length = 221 ∧ opcodeMap2.length = 38 ∧ opcodeMap3.length = 9 ∧
      (List.range 256).filter (fun b => ¬ Mapped b) =
        [0x01, 0x02, 0x05, 0x0B, 0x10, 0x11, 0x14, 0x15, 0x18, 0x1B, 0x38, 0x3E, 0x41, 0x42, 0x45, 0x4B, 0x4E, 0x51, 0x52,
         0x55, 0x5B, 0x5E, 0x61, 0x62, 0x65, 0x6B, 0x71, 0x72, 0x75, 0x7B, 0x87, 0x8F, 0xC7, 0xCD, 0xCF] := by decide +kernel

/-- O4: undefined postbytes (87, 8A, 8E, 8F) and their defined neighbours (7F, 86, 88, 8B, 8D, 9F). -/
theorem witness_undefined_postbytes :
    ([0x87, 0x8A, 0x8E, 0x8F].all fun pb : Byte =>
      pb.getLsbD 7 && (pb.toNat % 16 == 0x7 || pb.toNat % 16 == 0xA || pb.toNat % 16 == 0xE ||
        (pb.toNat % 16 == 0xF && !pb.getLsbD 4))) = true ∧
    ([0x7F, 0x86, 0x88, 0x8B, 0x8D, 0x9F].any fun pb : Byte =>
      pb.getLsbD 7 && (pb.toNat % 16 == 0x7 || pb.toNat % 16 == 0xA || pb.toNat % 16 == 0xE ||
        (pb.toNat % 16 == 0xF && !pb.getLsbD 4))) = false := by decide

/-- A state whose next step runs a NOP at its PC. -/
def atNop : State := State.reset.withFetchWord 8 0x12

/-- O4: the first and the last indexed row of the list, with an undefined postbyte at each end and two defined ones. -/
theorem witness_indexed_rows :
    indexedRows.length = 56 ∧ indexedRows.head?.map Prod.fst = some [0x30] ∧
      indexedRows.getLast?.map Prod.fst = some [0x11, 0xAC] ∧
      ((0x87 : Byte).getLsbD 7 = true ∧ (0x87 : Byte).toNat % 16 = 0x7) ∧
      ((0xEF : Byte).getLsbD 7 = true ∧ (0xEF : Byte).toNat % 16 = 0xF ∧ (0xEF : Byte).getLsbD 4 = false) ∧
      (0x7F : Byte).getLsbD 7 = false ∧ ((0xFF : Byte).toNat % 16 = 0xF ∧ (0xFF : Byte).getLsbD 4 = true) := by decide

/-- Reset at a chosen master cycle and SAM register. -/
def atMaster (n : Nat) (sam : Word) : State :=
  { State.reset with sam := sam, seq := { masterCycle := n, dot := 0, scanline := 0 } }

/-- O5: every hypothesis holds of the state that runs a NOP, and of one that runs a fallback NOP. -/
theorem witness_step_runs :
    ∃ f rest, atNop.applyEnv.sequence.seq.masterCycle % atNop.applyEnv.sequence.cpuDiv = 0 ∧
      atNop.applyEnv.sequence.hwHalt = false ∧ atNop.applyEnv.sequence.pending = 0 ∧
      ({ atNop.applyEnv.sequence with cyc := 0 }).interruptCheck.halt = .none ∧
      ({ atNop.applyEnv.sequence with cyc := 0 }).interruptCheck.fetchInstr = (.instr .nop false rest, f) :=
  ⟨_, _, rfl, rfl, rfl, rfl, rfl⟩

/-- O5: from reset the first master tick is no CPU tick and the 32nd is; with SAM field 12 set the 16th is. -/
theorem witness_cpu_ticks :
    State.reset.applyEnv.sequence.seq.masterCycle % 32 ≠ 0 ∧
      (atMaster 31 0).applyEnv.sequence.seq.masterCycle % 32 = 0 ∧ (atMaster 31 0).sam.getLsbD 12 = false ∧
      (atMaster 15 0x1000).applyEnv.sequence.seq.masterCycle % 16 = 0 ∧ (atMaster 15 0x1000).sam.getLsbD 12 = true := by
  decide

/-- O6: the last byte at 0xFEFF, the first at 0xFEFE. -/
theorem witness_fetch_below_io :
    let s := small { regs0 with pc := 0xFEFE } [(0xFEFE, 0x86), (0xFEFF, 0x05)]
    (Instr.ldaImm 0x05).wf = true ∧ ∀ j, j < (encode (.ldaImm 0x05)).length →
      (s.regs.pc + BitVec.ofNat 16 j).toNat < 0xFF00 ∧
        (s.readByte (s.regs.pc + BitVec.ofNat 16 j)).1 = (encode (.ldaImm 0x05)).getD j 0 := by decide

/-- O7: an invalid opcode, an undefined postbyte, and a soft halt that nothing ends. -/
theorem witness_undefined_steps :
    (∃ f rest, (small regs0 [(0x1000, 0x01)]).interruptCheck.halt = .none ∧
      (small regs0 [(0x1000, 0x01)]).interruptCheck.fetchInstr = (.invalidOpcode rest, f)) ∧
    (∃ f rest, (small regs0 [(0x1000, 0xA6), (0x1001, 0x87)]).interruptCheck.halt = .none ∧
      (small regs0 [(0x1000, 0xA6), (0x1001, 0x87)]).interruptCheck.fetchInstr = (.illegalIndexed rest, f)) ∧
    ({ small regs0 [] with halt := .invalidOpcode }).interruptCheck.halt ≠ .none :=
  ⟨⟨_, _, rfl, rfl⟩, ⟨_, _, rfl, rfl⟩, by decide⟩

/-- O7: an undefined byte at the last address below the I/O window, and one after a prefix there; the first and the last
of R138's list. -/
theorem witness_undefined_bytes :
    let s := small { regs0 with pc := 0xFEFF } [(0xFEFF, 0x01)]
    let q := small { regs0 with pc := 0xFEFE } [(0xFEFE, 0x11), (0xFEFF, 0xCF)]
    s.interruptCheck.halt = .none ∧ s.interruptCheck.regs.pc.toNat < 0xFF00 ∧
      (s.interruptCheck.readByte 0xFEFF).1 = 0x01 ∧ ¬ Mapped 0x01 ∧
      q.interruptCheck.halt = .none ∧ (q.interruptCheck.regs.pc + 1).toNat < 0xFF00 ∧
      (q.interruptCheck.readByte 0xFEFE).1 = 0x11 ∧ (q.interruptCheck.readByte 0xFEFF).1 = 0xCF ∧ ¬ Mapped 0xCF := by
  decide +kernel

/-- O8: the halted tick with pending cycles, the smallest count down, and a tick that steps. -/
theorem witness_cpuTick :
    ({ small regs0 [] with hwHalt := true, pending := 3 }).hwHalt = true ∧
      ({ small regs0 [] with pending := 1 }).hwHalt = false ∧ 0 < ({ small regs0 [] with pending := 1 }).pending ∧
      (small regs0 []).hwHalt = false ∧ (small regs0 []).pending = 0 := by decide

/-- Reset at a chosen dot and scanline, with the CPU halted. -/
def atDot (dot line : Nat) : State :=
  { State.reset with hwHalt := true, seq := { masterCycle := 7, dot := dot, scanline := line } }

/-- A step of a halted CPU answers a next state. -/
theorem halted_step (s : State) (h : s.applyEnv.sequence.hwHalt = true) : ∃ t, step s = .next t := by
  unfold step State.masterTick
  dsimp only
  split
  · unfold State.cpuTick
    rw [if_pos h]
    exact ⟨_, rfl⟩
  · exact ⟨_, rfl⟩

/-- O9: steps at dot 1819 with scanline 261 and 260, and at dots 1818 and 0. -/
theorem witness_counters :
    (∃ t, step (atDot 1819 261) = .next t) ∧ (∃ t, step (atDot 1819 260) = .next t) ∧
      (∃ t, step (atDot 1818 261) = .next t) ∧ ∃ t, step (atDot 0 0) = .next t :=
  ⟨halted_step _ rfl, halted_step _ rfl, halted_step _ rfl, halted_step _ rfl⟩

/-- O10 and O13: reset has the invariant, and a step from it and from a running state answers a next state. -/
theorem witness_invariant : Inv State.reset ∧ (∃ t, step State.reset = .next t) ∧ Inv atNop ∧ ∃ t, step atNop = .next t := by
  refine ⟨⟨rfl, by decide, by decide, by decide, ?_, ?_, rfl, by decide⟩, ⟨_, rfl⟩,
    ⟨by decide, by decide, by decide, by decide, ?_, ?_, rfl, by decide⟩, ⟨_, rfl⟩⟩ <;> simp [IrqLatchAgrees, FirqLatchAgrees, State.reset, atNop] <;> decide

/-- O15, O54, O55: addresses at the ends of the ranges. -/
theorem witness_address_ranges :
    (0xFEFF : Word).toNat < 0xFF00 ∧ (0 : Word).toNat < 0xFF00 ∧ 0xFFE0 ≤ (0xFFE0 : Word).toNat ∧
      0xFFE0 ≤ (0xFFFF : Word).toNat ∧ regs0.dp.toNat * 256 + (0xFF : Byte).toNat < 0xFF00 ∧
      ({ regs0 with dp := 0xFE }).dp.toNat * 256 + (0xFF : Byte).toNat < 0xFF00 ∧ ¬ (0xFFDF : Word).toNat < 0xFF00 ∧ ¬ 0xFFE0 ≤ (0xFFDF : Word).toNat := by decide

/-- O54: a ROM window and RAM, at both ends of the ROM banks and of the untranslated ROM. -/
theorem witness_rom_window :
    romWindow State.reset 0x8000 = some 0x8000 ∧ romWindow State.reset 0x7FFF = none ∧
      romWindow ((State.reset.writeByte 0xFF90 0x40).writeByte 0xFFA4 0x3C) 0x8000 = some 0x8000 ∧
      romWindow ((State.reset.writeByte 0xFF90 0x40).writeByte 0xFFA4 0x3B) 0x8000 = none ∧
      romWindow ((State.reset.writeByte 0xFF90 0x48).writeByte 0xFFA7 0x3F) 0xFDFF = some 0xFDFF ∧
      romWindow ((State.reset.writeByte 0xFF90 0x48).writeByte 0xFFA7 0x01) 0xFE00 = some 0xFE00 := by decide

/-- O18 and O34: a store to the last byte below the I/O window. -/
theorem witness_store_byte :
    ((small regs0 []).ea (.ext 0xFEFF)).2.storeAddr ((small regs0 []).ea (.ext 0xFEFF)).1 = some 0x7FEFF ∧
      (small regs0 []).ram.wf = true := ⟨rfl, rfl⟩

/-- O19: both bytes in RAM at the top of the plain range, and a word whose first byte is not in RAM (0xFFFF, then 0). -/
theorem witness_store_word :
    (small regs0 []).storeAddr 0xFEFE = some 0x7FEFE ∧
      ((small regs0 []).writeByte 0xFEFE 0x12).storeAddr (0xFEFE + 1) = some 0x7FEFF ∧
      (small regs0 []).storeAddr 0xFFFF = none ∧
      ((small regs0 []).writeByte 0xFFFF 0x12).storeAddr (0xFFFF + 1) = some 0x70000 := ⟨rfl, rfl, rfl, rfl⟩

/-- O22: an exchange of two 16-bit codes and of two 8-bit codes, run twice. -/
theorem witness_exchange_twice :
    (∃ t u, exec (.exg 0 5) (small regs0 []) = .next t ∧ exec (.exg 0 5) t = .next u) ∧
      (∃ t u, exec (.exg 8 0xB) (small regs0 []) = .next t ∧ exec (.exg 8 0xB) t = .next u) ∧
      ((0 : BitVec 4).toNat ≤ 5 ∧ (5 : BitVec 4).toNat ≤ 5) ∧
      (8 ≤ (8 : BitVec 4).toNat ∧ (8 : BitVec 4).toNat ≤ 0xB ∧ 8 ≤ (0xB : BitVec 4).toNat ∧ (0xB : BitVec 4).toNat ≤ 0xB) :=
  ⟨⟨_, _, rfl, rfl⟩, ⟨_, _, rfl, rfl⟩, by decide, by decide⟩

/-- O29: 99 and 99 in BCD, every digit at its bound. -/
theorem witness_bcd_digits : (0x99 : Byte).toNat % 16 < 10 ∧ (0x99 : Byte).toNat / 16 < 10 := by decide

/-- O37: each condition but BRA and BRN holds of some C, Z, N, V and fails of others. -/
theorem witness_branch_conditions :
    (taken .hi false false false false ∧ ¬ taken .hi true false false false) ∧
    (taken .ls true false false false ∧ ¬ taken .ls false false false false) ∧
    (taken .cc false false false false ∧ ¬ taken .cc true false false false) ∧
    (taken .cs true false false false ∧ ¬ taken .cs false false false false) ∧
    (taken .ne false false false false ∧ ¬ taken .ne false true false false) ∧
    (taken .eq false true false false ∧ ¬ taken .eq false false false false) ∧
    (taken .vc false false false false ∧ ¬ taken .vc false false false true) ∧
    (taken .vs false false false true ∧ ¬ taken .vs false false false false) ∧
    (taken .pl false false false false ∧ ¬ taken .pl false false true false) ∧
    (taken .mi false false true false ∧ ¬ taken .mi false false false false) ∧
    (taken .ge false false true true ∧ ¬ taken .ge false false true false) ∧
    (taken .lt false false true false ∧ ¬ taken .lt false false true true) ∧
    (taken .gt false false true true ∧ ¬ taken .gt false true true true) ∧
    (taken .le false true true true ∧ ¬ taken .le false false true true) ∧
    taken .always false false false false ∧ ¬ taken .never false false false false := by
  simp [taken]

/-- Plain RAM under the small machine, at the top of the range below the I/O window. -/
theorem plainRam_small (g : Regs) (a : Word) (n : Nat) (h : a.toNat + n ≤ 0xFF00) : PlainRam (small g []) a n := by
  have ht : ∀ b : Word, (small g []).translate b = ((0x70000 + b.toNat) % 0x80000, none) := by
    intro b
    unfold State.translate
    rw [if_neg (by simp [State.mmuMaps, State.mmuEnable, small, State.reset])]
    simp [State.allRam, State.ramAddr, Params.ramSize, small, State.reset, Config.defaults]
  have hb : ∀ j, j < n → (a + BitVec.ofNat 16 j).toNat = a.toNat + j := by
    intro j hj
    rw [BitVec.toNat_add, BitVec.toNat_ofNat]
    omega
  refine ⟨fun j hj => ⟨?_, ?_⟩, fun i j hi hj hij => ?_⟩
  · rw [hb j hj]; omega
  · rw [ht]
  · rw [ht, ht]
    dsimp only
    rw [hb i hi, hb j hj]
    omega

/-- O41: the two bytes below S = 0xFF00, and a BSR and an RTS. -/
theorem witness_call_return :
    let s := small { regs0 with s := 0xFF00 } []
    s.ram.wf = true ∧ PlainRam s (s.regs.s - 2) 2 ∧ ∃ t u, exec (.bsr 0x7F) s = .next t ∧ exec .rts t = .next u :=
  ⟨rfl, plainRam_small _ _ _ (by decide), _, _, rfl, rfl⟩

/-- O44: the whole mask on S, and the empty mask on U. -/
theorem witness_push_pull :
    (let s := small { regs0 with s := 0xFF00 } [];
      s.ram.wf = true ∧ PlainRam s (s.sp .s - BitVec.ofNat 16 (stackBytes 0xFF)) (stackBytes 0xFF) ∧
        ∃ t u, exec (pushInstr .s 0xFF) s = .next t ∧ exec (pullInstr .s 0xFF) t = .next u) ∧
    (let s := small { regs0 with u := 0x0000 } [];
      s.ram.wf = true ∧ PlainRam s (s.sp .u - BitVec.ofNat 16 (stackBytes 0x00)) (stackBytes 0x00) ∧
        ∃ t u, exec (pushInstr .u 0x00) s = .next t ∧ exec (pullInstr .u 0x00) t = .next u) :=
  ⟨⟨rfl, plainRam_small _ _ _ (by decide), _, _, rfl, rfl⟩, rfl, plainRam_small _ _ _ (by decide), _, _, rfl, rfl⟩

/-- O46: each software interrupt is listed. -/
theorem witness_software_interrupts :
    ((.swi, [(.e, true), (.i, true), (.f, true)], 0x7FFA) : Instr × List (Flag × Bool) × Nat) ∈ softwareInterrupts ∧
      ((.swi2, [(.e, true)], 0x7FF4) : Instr × List (Flag × Bool) × Nat) ∈ softwareInterrupts ∧
      ((.swi3, [(.e, true)], 0x7FF2) : Instr × List (Flag × Bool) × Nat) ∈ softwareInterrupts := by
  simp [softwareInterrupts]

/-- O47: a first byte with bit 7 clear and one with bit 7 set. -/
theorem witness_rti_both_forms :
    (((small regs0 []).readByte 0x8000).1).getLsbD 7 = false ∧
      (((small regs0 [(0x8000, 0x80)]).readByte 0x8000).1).getLsbD 7 = true := by decide

/-- O48: SWI, then RTI, with the twelve bytes below S = 0xFF00. -/
theorem witness_exception_return :
    let s := small { regs0 with s := 0xFF00 } []
    s.ram.wf = true ∧ PlainRam s (s.regs.s - 12) 12 ∧ ∃ t u, exec .swi s = .next t ∧ exec .rti t = .next u :=
  ⟨rfl, plainRam_small _ _ _ (by decide), _, _, rfl, rfl⟩

/-- O50, O51, O52: RESET waits by `RESET_FIRST` false although it is pending, and with `RESET_FIRST` when it is not. -/
theorem witness_reset_waits :
    ResetWaits (withLines (small regs0 []) true true true true) ∧
      ResetWaits (withParams (small regs0 []) { Config.defaults with resetFirst := true }) ∧
      ¬ ResetWaits (withParams (withLines (small regs0 []) true true true true) { Config.defaults with resetFirst := true }) := by
  unfold ResetWaits
  decide

/-- O50: NMI outside CWAI, with every other line pending, and in the CWAI wait. -/
theorem witness_nmi :
    (withLines (small regs0 []) true true true true).lines.nmiExt = true ∧
      (withLines (small regs0 []) true true true true).halt ≠ .cwaiWait ∧
      (withLines { small regs0 [] with halt := .cwaiWait } true false false false).lines.nmiExt = true ∧
      (withLines { small regs0 [] with halt := .cwaiWait } true false false false).halt = .cwaiWait := by decide

/-- O51: FIRQ with F = 0, IRQ with I = 0 beside no FIRQ and beside a masked one; each also in the CWAI wait. -/
theorem witness_firq_irq :
    (withLines (small regs0 []) false true true false).lines.firq.any = true ∧
      (withLines (small regs0 []) false true true false).lines.nmiExt = false ∧ (small regs0 []).flag .f = false ∧
      (withLines (small regs0 []) false false true false).lines.firq.any = false ∧
      (withLines (small regs0 []) false false true false).lines.irq.any = true ∧ (small regs0 []).flag .i = false ∧
      (small { regs0 with cc := 0x40 } []).flag .f = true ∧ (small { regs0 with cc := 0x40 } []).flag .i = false ∧
      (withLines (small { regs0 with cc := 0x40 } []) false true true false).lines.irq.any = true ∧
      (withLines { small regs0 [] with halt := .cwaiWait } false true true false).halt = .cwaiWait := by decide

/-- O51: a masked FIRQ before a servable IRQ, which does not block by default and does with `MASKED_LINE_BLOCKS`. -/
theorem witness_firq_masked_before_irq :
    let s := withLines (small { regs0 with cc := 0x40 } []) false true true false
    FirqIdle s ∧ ¬ FirqBlocks s ∧ s.lines.irq.any = true ∧ s.flag .i = false ∧
      FirqBlocks (withParams s { Config.defaults with maskedLineBlocks := true }) := by
  unfold FirqIdle FirqBlocks
  decide

/-- O52: RESET first; a blocking FIRQ and, alone, a blocking IRQ before a RESET; nothing that blocks. -/
theorem witness_reset_and_blocking :
    let q : Params := { Config.defaults with maskedLineBlocks := true }
    let s := withParams (withLines (small { regs0 with cc := 0x50 } []) false true true true) q
    let t := withParams (withLines (small { regs0 with cc := 0x50 } []) false false true true) q
    (withParams s { q with resetFirst := true }).params.resetFirst = true ∧ ResetWaits s ∧ FirqBlocks s ∧
      FirqIdle t ∧ IrqIdle t ∧ IrqBlocks t ∧ ¬ FirqBlocks t ∧
      (let u := withLines (small { regs0 with cc := 0x50 } []) false true true true;
        FirqIdle u ∧ IrqIdle u ∧ ¬ FirqBlocks u ∧ ¬ IrqBlocks u) := by
  unfold ResetWaits FirqIdle IrqIdle FirqBlocks IrqBlocks
  decide

/-- O52: RESET with both lines masked and pending; no RESET in a SYNC wait with a masked line; nothing pending. -/
theorem witness_masked_and_reset :
    (let s := withLines (small { regs0 with cc := 0x50 } []) false true true true;
      s.lines.nmiExt = false ∧ s.flag .f = true ∧ s.flag .i = true ∧ s.lines.resetHost = true) ∧
    (let s := withLines { small { regs0 with cc := 0x10 } [] with halt := .syncWait } false false true false;
      s.lines.nmiExt = false ∧ s.lines.firq.any = false ∧ s.flag .i = true ∧ s.lines.resetHost = false ∧
        s.halt = .syncWait ∧ s.lines.irq.any = true) ∧
    (let s := small regs0 [];
      s.lines.nmiExt = false ∧ s.lines.firq.any = false ∧ s.lines.irq.any = false ∧ s.lines.resetHost = false) := by
  decide

/-- O55: ROM before the write, with the policy that discards and with the one that stores; and RAM. -/
theorem witness_rom_write_policy :
    (romWindow State.reset 0xFEFF).isSome = true ∧ (romWindow State.reset 0x7FFF) = none ∧
      (withParams State.reset { Config.defaults with romWritePolicy := .discard }).params.romWritePolicy = .discard ∧
      (romWindow (withParams State.reset { Config.defaults with romWritePolicy := .discard }) 0x8000).isSome = true := by
  decide

/-- O57, O58: the first and last address of a present window, one of an absent one, and the undefined addresses. -/
theorem witness_forwarded :
    Forwarded State.reset 0xFF20 ∧ Forwarded State.reset 0xFF8F ∧ ¬ Forwarded State.reset 0xFF60 ∧
      ¬ Forwarded State.reset 0xFF7F ∧ ¬ Forwarded State.reset 0xFF96 ∧
      ¬ Forwarded (withParams State.reset { Config.defaults with peripheralWindows := [⟨0xFF40, 0xFF5F, false⟩] }) 0xFF40 := by
  unfold Forwarded
  decide

/-- O55, O56: a canonical RAM with an entry. -/
theorem witness_canonical_ram : (small regs0 [(0x1000, 0x55), (0x0FFF, 0x01)]).ram.wf = true := by decide

/-- A timer value and a counter. -/
def withTimer (value : BitVec 12) (count : Nat) : State :=
  { State.reset with gime := { State.reset.gime with timerValue := value, timerCount := count } }

/-- O60: a stopped timer, the same with `TIMER_ZERO_STOPS` false, a counter at 2, at 1 and at 0, and the VSYNC position. -/
theorem witness_timer :
    (withTimer 0 5).gime.timerValue = 0 ∧ (withTimer 1 2).gime.timerValue ≠ 0 ∧ 1 < (withTimer 1 2).gime.timerCount ∧
      (withTimer 0xFFF 1).gime.timerValue ≠ 0 ∧ (withTimer 0xFFF 1).gime.timerCount ≤ 1 ∧
      (withTimer 1 0).gime.timerCount ≤ 1 ∧ (withTimer 0 5).params.timerZeroStops = true ∧
      (withParams (withTimer 0 5) { Config.defaults with timerZeroStops := false }).params.timerZeroStops = false ∧
      (atDot Config.vsyncDot.val Config.vsyncLine.val).seq.dot = Config.vsyncDot.val :=
  ⟨rfl, by decide, by decide, by decide, by decide, by decide, rfl, rfl, rfl⟩

/-- O60: a tick that wraps the line to scanline 13, and one that does not wrap. -/
theorem witness_line_wrap :
    (atDot 1819 12).seq.dot = 1819 ∧ (nextCounters (atDot 1819 12).seq).scanline = 13 ∧ (atDot 1818 12).seq.dot ≠ 1819 :=
  ⟨rfl, rfl, by decide⟩

end Sys2Proof.Tests
end

section
/-! PROOF. O53: the flags of the additions and subtractions of 40 R202 to R205. V is read off the signs alone: the sign bit of
a result cut to the width is the sign of the exact value, flipped when that value does not fit. The two widths are cases of
statements about words of any width. -/

namespace Sys2Proof.Proofs.AluFlags

open Sys2Proof Sys2Proof.Machine

variable {w : Nat}

/-- The exact value `d` does not fit a signed word of `w + 1` bits. -/
abbrev OutOfSignedRange (w : Nat) (d : Int) : Prop := d < -2 ^ w ∨ 2 ^ w - 1 < d

/-! The exact value and the word it is cut to. -/

theorem toInt_bounds (x : BitVec (w + 1)) : -2 ^ w ≤ x.toInt ∧ x.toInt < 2 ^ w :=
  ⟨BitVec.le_toInt x, BitVec.toInt_lt⟩

theorem msb_iff_neg (x : BitVec w) : x.msb = true ↔ x.toInt < 0 := by
  rw [BitVec.msb_eq_toInt, decide_eq_true_iff]

/-- A value less than one modulus away from 0 keeps its sign under the cut exactly when it fits. -/
theorem msb_ofInt_iff {d : Int} (lo : -2 ^ (w + 1) ≤ d) (hi : d < 2 ^ (w + 1)) :
    (BitVec.ofInt (w + 1) d).msb = true ↔ (d < 0 ↔ ¬ OutOfSignedRange w d) := by
  have cut := Int.bmod_neg_iff (m := 2 ^ (w + 1)) (x := d) (by push_cast; exact lo) (by push_cast; exact hi)
  rw [msb_iff_neg, BitVec.toInt_ofInt, cut]
  push_cast
  omega

theorem ofNat_sum_eq_ofInt (x y : BitVec w) (k : Nat) :
    BitVec.ofNat w (x.toNat + y.toNat + k) = BitVec.ofInt w (x.toInt + y.toInt + k) := by
  simp [BitVec.ofNat_add, BitVec.ofInt_add]

theorem ofInt_toNat_diff (x y : BitVec w) (k : Nat) :
    BitVec.ofInt w (x.toNat - y.toNat - k) = BitVec.ofInt w (x.toInt - y.toInt - k) := by
  simp [Int.sub_eq_add_neg, BitVec.ofInt_add, BitVec.ofInt_neg]

/-! V: the XOR of the signs. -/

theorem msb_xor_and_xor_iff (x x' y y' : BitVec w) :
    ((x ^^^ x') &&& (y ^^^ y')).msb = true ↔
      ¬ (x.msb = true ↔ x'.msb = true) ∧ ¬ (y.msb = true ↔ y'.msb = true) := by
  simp only [BitVec.msb_and, BitVec.msb_xor, Bool.and_eq_true, bne_iff_ne, ne_eq, ← Bool.eq_iff_iff]

theorem sum_overflow (x y : BitVec (w + 1)) (k : Bool) :
    let r := BitVec.ofNat (w + 1) (x.toNat + y.toNat + k.toNat)
    ((x ^^^ r) &&& (y ^^^ r)).msb = decide (OutOfSignedRange w (x.toInt + y.toInt + k.toNat)) := by
  intro r
  have hx := toInt_bounds x
  have hy := toInt_bounds y
  have hk := k.toNat_le
  have sign : r.msb = true ↔ _ :=
    ofNat_sum_eq_ofInt x y k.toNat ▸ msb_ofInt_iff (d := x.toInt + y.toInt + k.toNat) (by omega) (by omega)
  rw [Bool.eq_iff_iff, msb_xor_and_xor_iff, sign, msb_iff_neg, msb_iff_neg, decide_eq_true_iff]
  omega

theorem diff_overflow (x y : BitVec (w + 1)) (k : Bool) :
    let r := BitVec.ofInt (w + 1) (x.toNat - y.toNat - k.toNat)
    ((x ^^^ y) &&& (x ^^^ r)).msb = decide (OutOfSignedRange w (x.toInt - y.toInt - k.toNat)) := by
  intro r
  have hx := toInt_bounds x
  have hy := toInt_bounds y
  have hk := k.toNat_le
  have sign : r.msb = true ↔ _ :=
    ofInt_toNat_diff x y k.toNat ▸ msb_ofInt_iff (d := x.toInt - y.toInt - k.toNat) (by omega) (by omega)
  rw [Bool.eq_iff_iff, msb_xor_and_xor_iff, sign, msb_iff_neg, msb_iff_neg, decide_eq_true_iff]
  omega

/-! C: the bit that the cut of an unsigned sum loses. -/

theorem sum_carry (x y : BitVec w) (k : Bool) :
    (x.toNat + y.toNat + k.toNat).testBit w = decide (2 ^ w - 1 < x.toNat + y.toNat + k.toNat) := by
  have hx := x.isLt
  have hy := y.isLt
  have hk := k.toNat_le
  by_cases fits : x.toNat + y.toNat + k.toNat < 2 ^ w
  · rw [Nat.testBit_lt_two_pow fits, eq_comm, decide_eq_false_iff_not]
    omega
  · rw [Nat.testBit_of_two_pow_le_and_two_pow_add_one_gt (by omega) (by omega), eq_comm, decide_eq_true_iff]
    omega

/-- Settles O53. `add8` computes H by the comparison of R217 itself; the borrows are the signs of the exact differences. -/
theorem overflowCarryAndHalfCarry : Obligations.OverflowCarryAndHalfCarry := by
  refine ⟨fun a b cin => ⟨?add8V, ?add8C, ?add8H, ?sub8V, ?sub8C⟩, fun a b => ⟨?add16V, ?add16C, ?sub16V, ?sub16C⟩⟩
  case add8V => exact congrArg some (sum_overflow (w := 7) a b cin)
  case add8C => exact congrArg some (sum_carry a b cin)
  case add8H => rfl
  case sub8V => exact congrArg some (diff_overflow (w := 7) a b cin)
  case sub8C =>
    have borrow : (a.toNat : Int) - b.toNat - cin.toNat < 0 ↔ a.toNat < b.toNat + cin.toNat := by omega
    exact congrArg some (decide_eq_decide.mpr borrow)
  case add16V => simpa [add16] using sum_overflow (w := 15) a b false
  case add16C => exact congrArg some (sum_carry a b false)
  case sub16V => simpa [sub16] using diff_overflow (w := 15) a b false
  case sub16C =>
    have borrow : (a.toNat : Int) - b.toNat < 0 ↔ a.toNat < b.toNat := by omega
    exact congrArg some (decide_eq_decide.mpr borrow)

end Sys2Proof.Proofs.AluFlags
end

section
/-! PROOF. O8: the CPU tick of 60 R600 and R601, one equation per branch of `State.cpuTick`: frozen, counting down, or idle and
due to step. -/

namespace Sys2Proof.Proofs.CpuTick

open Sys2Proof Sys2Proof.Machine

variable {s : State}

/-- What an idle tick makes of its step's answer (60 R600): a completed step is charged its cycles, a stop passes through. -/
def chargeOutcome : Result → Result
  | .next t => .next t.chargeStep
  | .fault e => .fault e
  | .refused e => .refused e

theorem cpuTick_of_hwHalt (frozen : s.hwHalt = true) : s.cpuTick = .next s :=
  if_pos frozen

theorem cpuTick_of_pending (running : s.hwHalt = false) (busy : 0 < s.pending) :
    s.cpuTick = .next { s with pending := s.pending - 1 } := by
  rw [State.cpuTick, if_neg (Bool.eq_false_iff.mp running), if_pos busy]

theorem cpuTick_of_idle (running : s.hwHalt = false) (idle : s.pending = 0) :
    s.cpuTick = chargeOutcome s.startStep.cpuStep := by
  rw [State.cpuTick, if_neg (Bool.eq_false_iff.mp running), if_neg (Nat.not_lt.mpr idle.le)]
  cases s.startStep.cpuStep with
  | next t => rfl
  | fault e => rfl
  | refused e => rfl

/-- Settles O8. The three clauses are the three branches of the tick; the last goes by the answer of the step. -/
theorem cpuTickHaltsCountsDownOrSteps : Obligations.CpuTickHaltsCountsDownOrSteps := by
  refine fun s => ⟨cpuTick_of_hwHalt, cpuTick_of_pending, fun running idle => ?_⟩
  refine (cpuTick_of_idle running idle).trans ?_
  change chargeOutcome ({ s with cyc := 0 } : State).cpuStep = _
  cases ({ s with cyc := 0 } : State).cpuStep with
  | next t => rfl
  | fault e => rfl
  | refused e => rfl

end Sys2Proof.Proofs.CpuTick
end

section
/-! PROOF. O1, O2, O3 and O4: the decoder against the opcode maps of 30 R138 to R140. The decoder's page tables are the maps,
and the maps are sorted, so that the row of an opcode is the row found for it (`reaches_of_mem`); each row then reads its
operand by its format. -/

namespace Sys2Proof.Proofs.Codec

open Sys2Proof Sys2Proof.Machine Sys2Proof.Safety

/-! The page tables are the maps. -/

/-- A row of the maps as the page tables have it: numbered within its page, without its cycles. -/
def pageRow (base : Nat) (row : Nat × Entry × Nat) : Nat × Entry := (row.1 - base, row.2.1)

theorem page1_eq : page1 = opcodeMap1.map (pageRow 0) := by
  simp only [opcodeMap1, List.map_append]
  rfl

theorem page2_eq : page2 = opcodeMap2.map (pageRow 0x1000) := by
  simp only [opcodeMap2, List.map_append]
  rfl

theorem page3_eq : page3 = opcodeMap3.map (pageRow 0x1100) := by
  simp only [opcodeMap3, List.map_append]
  rfl

theorem page1_sorted : (page1.map Prod.fst).IsChain (· < ·) := by decide +kernel

theorem page2_sorted : (page2.map Prod.fst).IsChain (· < ·) := by decide +kernel

theorem page3_sorted : (page3.map Prod.fst).IsChain (· < ·) := by decide +kernel

theorem opcodeMap1_numbers : ∀ n ∈ opcodeMap1.map Prod.fst, n < 0x100 ∧ n ≠ 0x10 ∧ n ≠ 0x11 := by decide +kernel

theorem opcodeMap2_numbers : ∀ n ∈ opcodeMap2.map Prod.fst, n / 0x100 = 0x10 := by decide +kernel

theorem opcodeMap3_numbers : ∀ n ∈ opcodeMap3.map Prod.fst, n / 0x100 = 0x11 := by decide +kernel

/-- In a sorted table the row of an opcode is the one that is found. -/
theorem findRow_of_mem {l : List (Nat × Entry)} {op : Nat} {e : Entry} (sorted : (l.map Prod.fst).IsChain (· < ·))
    (h : (op, e) ∈ l) : findRow l op = some e := by
  rw [List.isChain_iff_pairwise] at sorted
  induction l with
  | nil => simp at h
  | cons row rest ih =>
    obtain ⟨k, f⟩ := row
    obtain ⟨first, sorted⟩ := List.pairwise_cons.1 sorted
    rcases List.mem_cons.1 h with same | later
    · obtain ⟨rfl, rfl⟩ := Prod.mk.inj same
      exact if_pos rfl
    · have below : k < op := first op (List.mem_map_of_mem later)
      exact (if_neg (by omega)).trans (ih sorted later)

theorem opcodeMap_eq_flatten : opcodeMap = mapRows.flatten := by
  simp only [opcodeMap, opcodeMap1, opcodeMap2, opcodeMap3, mapRows, List.flatten_cons, List.flatten_nil,
    List.append_assoc, List.append_nil]

/-! From the opcode to the operand. -/

/-- After these opcode bytes the decoder reads the operand of a row. -/
def Reaches (op : List Byte) (e : Entry) : Prop := ∀ tail, decode (op ++ tail) = decodeOperand e false tail

theorem reaches_page1 {b : Byte} {e : Entry} (h10 : b ≠ 0x10) (h11 : b ≠ 0x11) (h : findRow page1 b.toNat = some e) :
    Reaches [b] e := by
  intro tail
  show decode (b :: tail) = _
  rw [decode_unprefixed b tail h10 h11, decodePage1, h]

theorem decodePaged_of_row {page : List (Nat × Entry)} {b : Byte} {e : Entry} (h : findRow page b.toNat = some e)
    (tail : List Byte) : decodePaged page (b :: tail) = decodeOperand e false tail := by
  rw [decodePaged, h]

theorem reaches_page2 {b : Byte} {e : Entry} (h : findRow page2 b.toNat = some e) : Reaches [0x10, b] e :=
  decodePaged_of_row h

theorem reaches_page3 {b : Byte} {e : Entry} (h : findRow page3 b.toNat = some e) : Reaches [0x11, b] e :=
  decodePaged_of_row h

theorem toNat_ofNat8 {n : Nat} (h : n < 0x100) : (BitVec.ofNat 8 n).toNat = n := by
  rw [BitVec.toNat_ofNat]
  omega

/-- The decoder reads the operand of every row of the maps after the opcode bytes of the row. -/
theorem reaches_of_mem {row : Nat × Entry × Nat} (h : row ∈ opcodeMap) : Reaches (opcodeBytes row.1) row.2.1 := by
  obtain ⟨n, e, cycles⟩ := row
  have low : (BitVec.ofNat 8 (n % 0x100)).toNat = n % 0x100 := toNat_ofNat8 (by omega)
  rcases List.mem_append.1 h with h12 | h3
  rcases List.mem_append.1 h12 with h1 | h2
  · obtain ⟨small, no10, no11⟩ := opcodeMap1_numbers n (List.mem_map_of_mem h1)
    have number := toNat_ofNat8 small
    rw [show opcodeBytes n = [BitVec.ofNat 8 n] from if_pos small]
    refine reaches_page1 (fun p => no10 ?_) (fun p => no11 ?_) ?_
    · rw [← number, p]; rfl
    · rw [← number, p]; rfl
    · rw [number]
      exact findRow_of_mem page1_sorted (page1_eq ▸ List.mem_map_of_mem (f := pageRow 0) h1)
  · have page := opcodeMap2_numbers n (List.mem_map_of_mem h2)
    have row := List.mem_map_of_mem (f := pageRow 0x1000) h2
    rw [show opcodeBytes n = [0x10, BitVec.ofNat 8 (n % 0x100)] from by simp [opcodeBytes, page]; omega]
    refine reaches_page2 ?_
    rw [low, show n % 0x100 = n - 0x1000 by omega]
    exact findRow_of_mem page2_sorted (page2_eq ▸ row)
  · have page := opcodeMap3_numbers n (List.mem_map_of_mem h3)
    have row := List.mem_map_of_mem (f := pageRow 0x1100) h3
    rw [show opcodeBytes n = [0x11, BitVec.ofNat 8 (n % 0x100)] from by simp [opcodeBytes, page]; omega]
    refine reaches_page3 ?_
    rw [low, show n % 0x100 = n - 0x1100 by omega]
    exact findRow_of_mem page3_sorted (page3_eq ▸ row)

/-- The page-1 table, row by row: the row of the opcodes with a high digit (30 R138). -/
def page1Rows : List (List (Nat × Entry)) :=
  [page1Row0, page1Row1, page1Row2, page1Row3, page1Row4, page1Row5, page1Row6, page1Row7, page1Row8, page1Row9, page1RowA,
   page1RowB, page1RowC, page1RowD, page1RowE, page1RowF]

theorem page1_eq_flatten : page1 = page1Rows.flatten := by
  simp only [page1, page1Rows, List.flatten_cons, List.flatten_nil, List.append_assoc, List.append_nil]

theorem mem_of_findRow {l : List (Nat × Entry)} {op : Nat} {e : Entry} (h : findRow l op = some e) : (op, e) ∈ l := by
  induction l with
  | nil => cases h
  | cons row rest ih =>
    obtain ⟨k, f⟩ := row
    rw [findRow] at h
    split at h
    · cases h
      subst op
      exact List.mem_cons_self
    · exact List.mem_cons_of_mem _ (ih h)

/-- An opcode found in its row of the page-1 table is found in the table. -/
theorem reaches_of_row {b : Byte} {e : Entry} (h : findRow (page1Rows.getD (b.toNat / 16) []) b.toNat = some e) :
    Reaches [b] e := by
  have inRow := mem_of_findRow h
  have inPage : (b.toNat, e) ∈ page1 := by
    rw [page1_eq_flatten]
    rw [List.getD_eq_getElem?_getD] at inRow
    rcases found : page1Rows[b.toNat / 16]? with _ | row
    · simp [found] at inRow
    · rw [found] at inRow
      exact List.mem_flatten.2 ⟨row, List.mem_of_getElem? found, inRow⟩
  have numbers : ∀ n ∈ page1.map Prod.fst, n ≠ 0x10 ∧ n ≠ 0x11 := by decide +kernel
  obtain ⟨no10, no11⟩ := numbers b.toNat (List.mem_map_of_mem inPage)
  exact reaches_page1 (fun p => no10 (p ▸ rfl)) (fun p => no11 (p ▸ rfl)) (findRow_of_mem page1_sorted inPage)

/-! O1: an instruction's bytes, by the format of its operand. -/

section Formats

variable {op : List Byte} (rest : List Byte)

theorem decode_inherent {i : Instr} (bytes : encode i = op) (row : Reaches op (.inh i)) :
    decode (encode i ++ rest) = .instr i false rest := by
  rw [bytes, row]
  rfl

theorem decode_byteOperand {f : Byte → Instr} {v : Byte} (bytes : encode (f v) = op ++ [v]) (row : Reaches op (.byte f)) :
    decode (encode (f v) ++ rest) = .instr (f v) false rest := by
  rw [bytes, List.append_assoc, row]
  rfl

theorem decode_wordOperand {f : Word → Instr} {w : Word} (bytes : encode (f w) = op ++ wordBytes w)
    (row : Reaches op (.word f)) : decode (encode (f w) ++ rest) = .instr (f w) false rest := by
  rw [bytes, List.append_assoc, row]
  show DecodeResult.instr (f (joinBytes (hiByte w) (loByte w))) false rest = _
  rw [joinBytes_hiByte_loByte]

theorem regsByte_fields (src dst : BitVec 4) :
    (src ++ dst : BitVec 8).extractLsb' 4 4 = src ∧ (src ++ dst : BitVec 8).extractLsb' 0 4 = dst := by
  revert src dst
  decide

theorem decode_regsOperand {f : BitVec 4 → BitVec 4 → Instr} {src dst : BitVec 4}
    (bytes : encode (f src dst) = op ++ [regsByte src dst]) (row : Reaches op (.regs f)) :
    decode (encode (f src dst) ++ rest) = .instr (f src dst) false rest := by
  obtain ⟨high, low⟩ := regsByte_fields src dst
  rw [bytes, List.append_assoc, row]
  simp only [List.cons_append, List.nil_append, decodeOperand, regsByte, high, low]

theorem decode_indexedOperand {f : Indexed → Instr} {ix : Indexed} (bytes : encode (f ix) = op ++ encodeIndexed ix)
    (row : Reaches op (.idx f)) (wf : ix.wf = true) : decode (encode (f ix) ++ rest) = .instr (f ix) false rest := by
  rw [bytes, List.append_assoc, row, decodeOperand, decodeIndexed_encodeIndexed ix rest wf]

end Formats

/-- Settles O1. The constructors fall into the five operand formats, on page 1 and on pages 2 and 3. -/
theorem decodeOfEncodeIsTheInstruction : Obligations.DecodeOfEncodeIsTheInstruction := by
  intro i rest wf
  cases i with
  | nop | sync | daa | sex | rts | abx | rti | mul | swi | nega | coma | lsra | rora | asra | asla | rola | deca
  | inca | tsta | clra | negb | comb | lsrb | rorb | asrb | aslb | rolb | decb | incb | tstb | clrb =>
    exact decode_inherent rest rfl (reaches_of_row rfl)
  | negDir v | comDir v | lsrDir v | rorDir v | asrDir v | aslDir v | rolDir v | decDir v | incDir v | tstDir v
  | jmpDir v | clrDir v | orcc v | andcc v | bra v | brn v | bhi v | bls v | bcc v | bcs v | bne v | beq v | bvc v
  | bvs v | bpl v | bmi v | bge v | blt v | bgt v | ble v | pshs v | puls v | pshu v | pulu v | cwai v | subaImm v
  | cmpaImm v | sbcaImm v | andaImm v | bitaImm v | ldaImm v | eoraImm v | adcaImm v | oraImm v | addaImm v | bsr v
  | subaDir v | cmpaDir v | sbcaDir v | subdDir v | andaDir v | bitaDir v | ldaDir v | staDir v | eoraDir v
  | adcaDir v | oraDir v | addaDir v | cmpxDir v | jsrDir v | ldxDir v | stxDir v | subbImm v | cmpbImm v
  | sbcbImm v | andbImm v | bitbImm v | ldbImm v | eorbImm v | adcbImm v | orbImm v | addbImm v | subbDir v
  | cmpbDir v | sbcbDir v | adddDir v | andbDir v | bitbDir v | ldbDir v | stbDir v | eorbDir v | adcbDir v
  | orbDir v | addbDir v | lddDir v | stdDir v | lduDir v | stuDir v =>
    exact decode_byteOperand rest rfl (reaches_of_row rfl)
  | exg src dst | tfr src dst =>
    exact decode_regsOperand rest rfl (reaches_of_row rfl)
  | lbra w | lbsr w | negExt w | comExt w | lsrExt w | rorExt w | asrExt w | aslExt w | rolExt w | decExt w
  | incExt w | tstExt w | jmpExt w | clrExt w | subdImm w | cmpxImm w | ldxImm w | subaExt w | cmpaExt w
  | sbcaExt w | subdExt w | andaExt w | bitaExt w | ldaExt w | staExt w | eoraExt w | adcaExt w | oraExt w
  | addaExt w | cmpxExt w | jsrExt w | ldxExt w | stxExt w | adddImm w | lddImm w | lduImm w | subbExt w
  | cmpbExt w | sbcbExt w | adddExt w | andbExt w | bitbExt w | ldbExt w | stbExt w | eorbExt w | adcbExt w
  | orbExt w | addbExt w | lddExt w | stdExt w | lduExt w | stuExt w =>
    exact decode_wordOperand rest rfl (reaches_of_row rfl)
  | leax ix | leay ix | leas ix | leau ix | negIdx ix | comIdx ix | lsrIdx ix | rorIdx ix | asrIdx ix | aslIdx ix
  | rolIdx ix | decIdx ix | incIdx ix | tstIdx ix | jmpIdx ix | clrIdx ix | subaIdx ix | cmpaIdx ix | sbcaIdx ix
  | subdIdx ix | andaIdx ix | bitaIdx ix | ldaIdx ix | staIdx ix | eoraIdx ix | adcaIdx ix | oraIdx ix | addaIdx ix
  | cmpxIdx ix | jsrIdx ix | ldxIdx ix | stxIdx ix | subbIdx ix | cmpbIdx ix | sbcbIdx ix | adddIdx ix | andbIdx ix
  | bitbIdx ix | ldbIdx ix | stbIdx ix | eorbIdx ix | adcbIdx ix | orbIdx ix | addbIdx ix | lddIdx ix | stdIdx ix
  | lduIdx ix | stuIdx ix =>
    exact decode_indexedOperand rest rfl (reaches_of_row rfl) wf
  | swi2 | swi3 =>
    exact decode_inherent (op := [_, _]) rest rfl (fun _ => rfl)
  | cmpdDir v | cmpyDir v | ldyDir v | styDir v | ldsDir v | stsDir v | cmpuDir v | cmpsDir v =>
    exact decode_byteOperand (op := [_, _]) rest rfl (fun _ => rfl)
  | lbrn w | lbhi w | lbls w | lbcc w | lbcs w | lbne w | lbeq w | lbvc w | lbvs w | lbpl w | lbmi w | lbge w
  | lblt w | lbgt w | lble w | cmpdImm w | cmpyImm w | ldyImm w | cmpdExt w | cmpyExt w | ldyExt w | styExt w
  | ldsImm w | ldsExt w | stsExt w | cmpuImm w | cmpsImm w | cmpuExt w | cmpsExt w =>
    exact decode_wordOperand (op := [_, _]) rest rfl (fun _ => rfl)
  | cmpdIdx ix | cmpyIdx ix | ldyIdx ix | styIdx ix | ldsIdx ix | stsIdx ix | cmpuIdx ix | cmpsIdx ix =>
    exact decode_indexedOperand (op := [_, _]) rest rfl (fun _ => rfl) wf

/-! O3: the maps hold every opcode that decodes. -/

theorem rowDecodes_of_reaches {op : List Byte} {e : Entry} (row : Reaches op e) : RowDecodes op e := by
  cases e with
  | inh i => exact row
  | byte f => exact fun v rest => row (v :: rest)
  | word f => exact fun hi lo rest => row (hi :: lo :: rest)
  | regs f =>
    intro src dst rest
    obtain ⟨high, low⟩ := regsByte_fields src dst
    rw [row]
    simp only [decodeOperand, high, low]
  | idx f =>
    intro ix rest wf
    rw [row, decodeOperand, decodeIndexed_encodeIndexed ix rest wf]

theorem findRow_page1_eq_none {n : Nat} (h : ¬ Mapped n) : findRow page1 n = none := by
  refine findRow_eq_none page1 n fun e he same => h ?_
  rw [page1_eq] at he
  obtain ⟨row, inMap, rfl⟩ := List.mem_map.1 he
  exact ⟨row, List.mem_append_left _ (List.mem_append_left _ inMap), same⟩

theorem findRow_page2_eq_none {n : Nat} (h : ¬ Mapped (0x1000 + n)) : findRow page2 n = none := by
  refine findRow_eq_none page2 n fun e he same => h ?_
  rw [page2_eq] at he
  obtain ⟨row, inMap, rfl⟩ := List.mem_map.1 he
  have page := opcodeMap2_numbers row.1 (List.mem_map_of_mem inMap)
  exact ⟨row, List.mem_append_left _ (List.mem_append_right _ inMap), by rw [← same, pageRow]; dsimp only; omega⟩

theorem findRow_page3_eq_none {n : Nat} (h : ¬ Mapped (0x1100 + n)) : findRow page3 n = none := by
  refine findRow_eq_none page3 n fun e he same => h ?_
  rw [page3_eq] at he
  obtain ⟨row, inMap, rfl⟩ := List.mem_map.1 he
  have page := opcodeMap3_numbers row.1 (List.mem_map_of_mem inMap)
  exact ⟨row, List.mem_append_right _ inMap, by rw [← same, pageRow]; dsimp only; omega⟩

/-- Every opcode of pages 2 and 3 is an opcode of page 1 too. -/
theorem mapped_of_prefixed : ∀ n ∈ (opcodeMap2 ++ opcodeMap3).map Prod.fst, n % 0x100 ∈ opcodeMap1.map Prod.fst := by
  decide +kernel

theorem not_mapped_prefixed {b : Byte} (h : ¬ Mapped b.toNat) :
    ¬ Mapped (0x1000 + b.toNat) ∧ ¬ Mapped (0x1100 + b.toNat) := by
  have small := b.isLt
  have onPage1 : ∀ n, 0x100 ≤ n → n % 0x100 = b.toNat → ¬ Mapped n := by
    rintro n big low ⟨row, inMap, rfl⟩
    rw [opcodeMap, List.append_assoc] at inMap
    rcases List.mem_append.1 inMap with h1 | h23
    · have := (opcodeMap1_numbers row.1 (List.mem_map_of_mem h1)).1
      omega
    · have onFirst := mapped_of_prefixed row.1 (List.mem_map_of_mem h23)
      rw [low] at onFirst
      obtain ⟨row', inMap', same⟩ := List.mem_map.1 onFirst
      exact h ⟨row', List.mem_append_left _ (List.mem_append_left _ inMap'), same⟩
  exact ⟨onPage1 _ (by omega) (by omega), onPage1 _ (by omega) (by omega)⟩

theorem decodePage1_of_not_mapped {b : Byte} (h : ¬ Mapped b.toNat) (fallback : Bool) (rest : List Byte) :
    decodePage1 b fallback rest = .invalidOpcode rest := by
  rw [decodePage1, findRow_page1_eq_none h]

theorem decodeOperand_fallback (e : Entry) (bs : List Byte) : decodeOperand e true bs = asFallback (decodeOperand e false bs) := by
  cases e with
  | inh i => rfl
  | byte f => cases bs <;> rfl
  | word f => rcases bs with _ | ⟨hi, _ | ⟨lo, rest⟩⟩ <;> rfl
  | regs f => cases bs <;> rfl
  | idx f =>
    rw [decodeOperand, decodeOperand]
    cases decodeIndexed bs <;> rfl

theorem decodePage1_fallback (b : Byte) (bs : List Byte) : decodePage1 b true bs = asFallback (decodePage1 b false bs) := by
  unfold decodePage1
  cases findRow page1 b.toNat with
  | none => rfl
  | some e => exact decodeOperand_fallback e bs

/-- After 0x10 or 0x11, an opcode that the page has no row for is read on page 1 (30 R133). -/
theorem decodePaged_fallback {page : List (Nat × Entry)} {b : Byte} (h : findRow page b.toNat = none) (rest : List Byte) :
    decodePaged page (b :: rest) = decodePage1 b true rest := by
  rw [decodePaged, h]

theorem decode_page2_fallback {b : Byte} (h : ¬ Mapped (0x1000 + b.toNat)) (rest : List Byte) :
    decode (0x10 :: b :: rest) = decodePage1 b true rest :=
  decodePaged_fallback (findRow_page2_eq_none h) rest

theorem decode_page3_fallback {b : Byte} (h : ¬ Mapped (0x1100 + b.toNat)) (rest : List Byte) :
    decode (0x11 :: b :: rest) = decodePage1 b true rest :=
  decodePaged_fallback (findRow_page3_eq_none h) rest

/-- An opcode outside the page-1 map is invalid, alone and after 0x10 and 0x11. -/
theorem decode_of_not_mapped {b : Byte} (rest : List Byte) (h : ¬ Mapped b.toNat) (h10 : b ≠ 0x10) (h11 : b ≠ 0x11) :
    decode (b :: rest) = .invalidOpcode rest ∧ decode (0x10 :: b :: rest) = .invalidOpcode rest ∧
      decode (0x11 :: b :: rest) = .invalidOpcode rest := by
  obtain ⟨not2, not3⟩ := not_mapped_prefixed h
  rw [decode_unprefixed b rest h10 h11, decode_page2_fallback not2, decode_page3_fallback not3]
  exact ⟨decodePage1_of_not_mapped h _ _, decodePage1_of_not_mapped h _ _, decodePage1_of_not_mapped h _ _⟩

/-- 0x10 or 0x11 after 0x10 or 0x11 is invalid (30 R134). -/
theorem decode_prefix_prefix {p q : Byte} (rest : List Byte) (hp : p = 0x10 ∨ p = 0x11) (hq : q = 0x10 ∨ q = 0x11) :
    decode (p :: q :: rest) = .invalidOpcode rest := by
  rcases hp with rfl | rfl <;> rcases hq with rfl | rfl <;> rfl

/-- After 0x10 or 0x11, where the page has no row for it, an opcode decodes as it does alone. -/
theorem decode_after_prefix {b : Byte} (rest : List Byte) (h10 : b ≠ 0x10) (h11 : b ≠ 0x11) :
    (¬ Mapped (0x1000 + b.toNat) → decode (0x10 :: b :: rest) = asFallback (decode (b :: rest))) ∧
    (¬ Mapped (0x1100 + b.toNat) → decode (0x11 :: b :: rest) = asFallback (decode (b :: rest))) := by
  rw [decode_unprefixed b rest h10 h11, ← decodePage1_fallback]
  exact ⟨fun h => decode_page2_fallback h rest, fun h => decode_page3_fallback h rest⟩

/-- Settles O3. The last clause is the fallback of the bytes that O1 decodes. -/
theorem prefixWithoutRowFallsBackToPageOne : Obligations.PrefixWithoutRowFallsBackToPageOne := by
  refine ⟨fun row h => rowDecodes_of_reaches (reaches_of_mem h), fun b rest h h10 h11 => decode_of_not_mapped rest h h10 h11,
    fun p q rest hp hq => decode_prefix_prefix rest hp hq, fun b rest h10 h11 => decode_after_prefix rest h10 h11, ?_⟩
  intro i rest b tail wf bytes h10 h11
  have alone := decodeOfEncodeIsTheInstruction i rest wf
  rw [bytes, List.cons_append] at alone
  have fallback := decode_after_prefix (tail ++ rest) h10 h11
  rw [alone] at fallback
  exact fallback

/-! O4: the postbytes. -/

/-- An indexed row of the maps, as `indexedRows` lists it. -/
def indexedRow : Nat × Entry × Nat → Option (List Byte × (Indexed → Instr))
  | (n, .idx f, _) => some (opcodeBytes n, f)
  | _ => none

theorem indexedRows_eq :
    indexedRows =
      (map1Row3 ++ map1Row6 ++ map1RowA ++ map1RowE ++ map2RowA ++ map2RowE ++ map3RowA).filterMap indexedRow := by
  simp only [List.filterMap_append]
  rfl

theorem reaches_indexedRow {row : List Byte × (Indexed → Instr)} (h : row ∈ indexedRows) : Reaches row.1 (.idx row.2) := by
  rw [indexedRows_eq] at h
  obtain ⟨⟨n, e, cycles⟩, inMap, same⟩ := List.mem_filterMap.1 h
  cases e with
  | idx f =>
    cases same
    refine reaches_of_mem (row := (n, .idx f, cycles)) ?_
    rw [opcodeMap_eq_flatten, List.mem_flatten]
    simp only [List.mem_append] at inMap
    rcases inMap with (((((h | h) | h) | h) | h) | h) | h
    all_goals exact ⟨_, by simp [mapRows], h⟩
  | _ => cases same

/-- A postbyte of an undefined sub-mode (30 R170). -/
def UndefinedPostbyte (pb : Byte) : Prop :=
  pb.getLsbD 7 = true ∧
    (pb.toNat % 16 = 0x7 ∨ pb.toNat % 16 = 0xA ∨ pb.toNat % 16 = 0xE ∨ (pb.toNat % 16 = 0xF ∧ pb.getLsbD 4 = false))

theorem toNat_low_nibble (pb : Byte) : (pb.extractLsb' 0 4).toNat = pb.toNat % 16 := by
  rw [BitVec.extractLsb'_toNat]
  rfl

theorem decodeIndexed_of_undefined {pb : Byte} (h : UndefinedPostbyte pb) (rest : List Byte) :
    decodeIndexed (pb :: rest) = .illegal rest := by
  obtain ⟨sub, low⟩ := h
  rw [← toNat_low_nibble] at low
  rcases low with low | low | low | ⟨low, direct⟩
  case inr.inr.inr => simp only [decodeIndexed, sub, low, direct, Bool.true_eq_false, Bool.false_eq_true, if_false]
  all_goals simp only [decodeIndexed, sub, low, Bool.true_eq_false, if_false]

/-- With two more bytes behind it, a defined postbyte gives a well-formed operand. -/
theorem decodeIndexed_of_defined {pb : Byte} (h : ¬ UndefinedPostbyte pb) (x y : Byte) (rest : List Byte) :
    ∃ ix left, ix.wf = true ∧ decodeIndexed (pb :: x :: y :: rest) = .ok ix left := by
  rw [UndefinedPostbyte, ← toNat_low_nibble] at h
  unfold decodeIndexed
  dsimp only
  split
  · exact ⟨_, _, rfl, rfl⟩
  next sub =>
    have defined := not_and.1 h (by simpa using sub)
    have bound := (pb.extractLsb' 0 4).isLt
    split
    case h_13 low =>
      have indirect : pb.getLsbD 4 = true := by simp_all
      rw [indirect]
      exact ⟨_, _, rfl, rfl⟩
    case h_14 => grind
    all_goals exact ⟨_, _, rfl, rfl⟩

/-- Settles O4. -/
theorem undefinedPostbytesAreRefused : Obligations.UndefinedPostbytesAreRefused := by
  intro row inRows pb x y rest
  have reach := reaches_indexedRow inRows (pb :: x :: y :: rest)
  refine ⟨fun undefined => ?_, fun defined => ?_⟩
  · rw [reach, decodeOperand, decodeIndexed_of_undefined undefined]
  · obtain ⟨ix, left, wf, operand⟩ := decodeIndexed_of_defined defined x y rest
    exact ⟨ix, left, wf, by rw [reach, decodeOperand, operand]⟩

/-- Settles O2. Each clause evaluates the decoder on its bytes. -/
theorem opcodeWordsDecodeAsWritten : Obligations.OpcodeWordsDecodeAsWritten :=
  ⟨rfl, rfl, rfl, rfl, rfl, rfl, rfl, rfl, rfl, rfl, rfl, rfl⟩

end Sys2Proof.Proofs.Codec
end

section
/-! PROOF. O9, O10, O11, O12 and O13: what every step keeps. The CPU's work is reads, pushes, writes and changes of registers,
none of which moves the counters, writes the ROM images or the parameters, or sets a latch without its line (`Quiet`). Every
instruction is one of a few shared operations (`exec_meaning`), each a chain of such work; the interrupt check is another. -/

namespace Sys2Proof.Proofs.Invariant

open Sys2Proof Sys2Proof.Machine Sys2Proof.Safety

/-! Work that keeps the invariant. -/

/-- The counters, the ROM images and the parameters are the same, and the devices still agree with their lines. -/
structure Keeps (s t : State) : Prop where
  seq : t.seq = s.seq
  platform : t.platform = s.platform
  params : t.params = s.params
  devices : DevicesAgree s → DevicesAgree t

/-- The same, and the soft halt is as before. -/
structure Quiet (s t : State) : Prop extends Keeps s t where
  halt : t.halt = s.halt

theorem Keeps.trans {r s t : State} (h : Keeps r s) (k : Keeps s t) : Keeps r t :=
  ⟨k.seq.trans h.seq, k.platform.trans h.platform, k.params.trans h.params, k.devices ∘ h.devices⟩

theorem Quiet.trans {r s t : State} (h : Quiet r s) (k : Quiet s t) : Quiet r t :=
  ⟨h.toKeeps.trans k.toKeeps, k.halt.trans h.halt⟩

theorem quiet_refl (s : State) : Quiet s s := ⟨⟨rfl, rfl, rfl, id⟩, rfl⟩

theorem quiet_setRegs (s : State) (g : Regs) : Quiet s (s.setRegs g) :=
  ⟨⟨rfl, rfl, rfl, fun h => devicesAgree_of_eq h rfl rfl rfl rfl rfl⟩, rfl⟩

theorem quiet_addCyc (s : State) (n : Nat) : Quiet s (s.addCyc n) :=
  ⟨⟨rfl, rfl, rfl, fun h => devicesAgree_of_eq h rfl rfl rfl rfl rfl⟩, rfl⟩

theorem quiet_countDraw (s : State) : Quiet s s.countDraw :=
  ⟨⟨rfl, rfl, rfl, fun h => devicesAgree_of_eq h rfl rfl rfl rfl rfl⟩, rfl⟩

theorem keeps_setHalt (s : State) (h : Halt) : Keeps s (s.setHalt h) :=
  ⟨rfl, rfl, rfl, fun h => devicesAgree_of_eq h rfl rfl rfl rfl rfl⟩

theorem quiet_afterReads (v q f : Bool) (n : Nat) (s : State) : Quiet s (afterReads v q f n s) := by
  obtain ⟨_, _, _, halt, _, _, _, seq, platform, _, _, params⟩ := afterReads_kept v q f n s
  exact ⟨⟨seq, platform, params, fun h => devicesAgree_afterReads h v q f n⟩, halt⟩

theorem quiet_of_systemKept {s t : State} (h : SystemKept s t) (ram : t.ram = s.ram) : Quiet s t := by
  unfold SystemKept at h
  rw [h, ram]
  exact (quiet_setRegs s t.regs).trans ⟨⟨rfl, rfl, rfl, fun h => devicesAgree_of_eq h rfl rfl rfl rfl rfl⟩, rfl⟩

theorem quiet_of_readEffect {s t : State} (h : ReadEffect s t) (ram : t.ram = s.ram) : Quiet s t := by
  obtain ⟨v, q, f, n, kept⟩ := h
  obtain ⟨_, _, _, _, _, ramRead, _⟩ := afterReads_kept v q f n s
  exact (quiet_afterReads v q f n s).trans (quiet_of_systemKept kept (ram.trans ramRead.symm))

theorem quiet_of_operandEffect {s t : State} {auto : List RegName} {n : Nat} (h : OperandEffect s t auto n) : Quiet s t :=
  quiet_of_readEffect h.reads h.ram

theorem quiet_readByte (s : State) (a : Word) : Quiet s (s.readByte a).2 :=
  quiet_of_readEffect (readByte_readEffect s a) (readByte_ram s a)

theorem quiet_writeByte (s : State) (a : Word) (v : Byte) : Quiet s (s.writeByte a v) :=
  ⟨⟨writeByte_seq s a v, writeByte_platform s a v, writeByte_params s a v, fun h => devicesAgree_writeByte h a v⟩,
    writeByte_halt s a v⟩

theorem quiet_pushAll (k : Stack) (s : State) (bytes : List Byte) : Quiet s (pushAll k s bytes) := by
  induction bytes generalizing s with
  | nil => exact quiet_refl s
  | cons v rest ih =>
    have push : Quiet s (s.push8 k v) := by
      rw [push8_eq]
      exact (quiet_writeByte s _ v).trans (quiet_setRegs _ _)
    exact push.trans (ih _)

theorem quiet_pullSeq (k : Stack) (s : State) (n : Nat) : Quiet s (pullSeq k s n).2 := by
  obtain ⟨_, ram, _, reads, _⟩ := pullSeq_effect k s n
  exact quiet_of_readEffect reads ram

theorem quiet_pulled (k : Stack) (s : State) (n : Nat) (g : Regs) : Quiet s (pulled k s n g) :=
  (quiet_pullSeq k s n).trans (quiet_setRegs _ _)

theorem quiet_setAcc (k : Acc) (s : State) (v : Byte) : Quiet s (s.setAcc k v) := by
  cases k <;> exact quiet_setRegs s _

theorem quiet_set16 (k : Reg16) (s : State) (v : Word) : Quiet s (s.set16 k v) := by
  cases k <;> exact quiet_setRegs s _

theorem quiet_idxSet (k : IdxReg) (s : State) (v : Word) : Quiet s (s.idxSet k v) := by
  cases k <;> exact quiet_setRegs s _

theorem quiet_putFlags (s : State) (fl : FlagWrites) : Quiet s (s.putFlags fl) := quiet_setRegs s _

theorem quiet_ea (s : State) (m : MemOp) : Quiet s (s.ea m).2 := quiet_of_operandEffect (ea_effect s m)

theorem quiet_operand8 (s : State) (o : Src8) : Quiet s (s.operand8 o).2 := quiet_of_operandEffect (operand8_effect s o)

theorem quiet_operand16 (s : State) (o : Src16) : Quiet s (s.operand16 o).2 := quiet_of_operandEffect (operand16_effect s o)

theorem quiet_resolveIndexed (s : State) (lea : Option IdxReg) (ix : Indexed) : Quiet s (s.resolveIndexed lea ix).2 :=
  quiet_of_operandEffect (resolveIndexed_effect s lea ix)

theorem quiet_takeException (s : State) (e : ExcEntry) (low : 0xFFE0 ≤ e.vector.toNat) (high : e.vector.toNat < 0xFFFF) :
    Quiet s (s.takeException e) := by
  rw [takeException_system s e low high]
  exact (quiet_pushAll .s s _).trans (quiet_setRegs _ _)

theorem quiet_returnFromException (s : State) : Quiet s s.returnFromException := by
  rw [returnFromException_eq]
  split
  · exact (quiet_pulled .s s 12 _).trans (quiet_addCyc _ _)
  · exact quiet_pulled .s s 3 _

/-! Instructions. -/

/-- The shared operations that are the instructions' meanings, by their answers in a state. -/
inductive Meaning (s : State) : Result → Prop
  | loadAcc (k : Acc) (o : Src8) : Meaning s (loadAcc k o s)
  | load16 (k : Reg16) (o : Src16) : Meaning s (load16 k o s)
  | storeAcc (k : Acc) (m : MemOp) : Meaning s (storeAcc k m s)
  | store16 (k : Reg16) (m : MemOp) : Meaning s (store16 k m s)
  | leaZ (k : IdxReg) (ix : Indexed) : Meaning s (leaZ k ix s)
  | leaNoFlags (k : IdxReg) (ix : Indexed) : Meaning s (leaNoFlags k ix s)
  | transfer (src dst : BitVec 4) : Meaning s (transfer src dst s)
  | exchange (r1 r2 : BitVec 4) : Meaning s (exchange r1 r2 s)
  | aluAcc (k : Acc) (f : Byte → Byte → Bool → Alu8) (o : Src8) : Meaning s (aluAcc k f o s)
  | testAcc (k : Acc) (f : Byte → Byte → Alu8) (o : Src8) : Meaning s (testAcc k f o s)
  | aluD (f : Word → Word → Alu16) (o : Src16) : Meaning s (aluD f o s)
  | compare16 (k : Reg16) (o : Src16) : Meaning s (compare16 k o s)
  | decimalAdjust : Meaning s (decimalAdjust s)
  | multiply : Meaning s (multiply s)
  | signExtend : Meaning s (signExtend s)
  | addBtoX : Meaning s (addBtoX s)
  | modifyMem (f : Byte → Bool → Alu8) (m : MemOp) : Meaning s (modifyMem f m s)
  | modifyAcc (k : Acc) (f : Byte → Bool → Alu8) : Meaning s (modifyAcc k f s)
  | testMem (m : MemOp) : Meaning s (testMem m s)
  | testAccInherent (k : Acc) : Meaning s (testAccInherent k s)
  | branch (k : Cond) (offset : Word) : Meaning s (branch k offset s)
  | longBranch (k : Cond) (offset : Word) : Meaning s (longBranch k offset s)
  | jump (m : MemOp) : Meaning s (jump m s)
  | jumpSubroutine (m : MemOp) : Meaning s (jumpSubroutine m s)
  | call (target : Word) : Meaning s (call target s)
  | pushMask (k : Stack) (mask : Byte) : Meaning s (pushMask k mask s)
  | pullMask (k : Stack) (mask : Byte) : Meaning s (pullMask k mask s)
  | setCC (v : Byte) : Meaning s (.next (s.setCC v))
  | nothing : Meaning s (.next s)
  | pullPC : Meaning s (.next (s.pullPC .s))
  | takeException (e : ExcEntry) (low : 0xFFE0 ≤ e.vector.toNat) (high : e.vector.toNat < 0xFFFF) :
      Meaning s (.next (s.takeException e))
  | returnFromException : Meaning s (.next s.returnFromException)
  | waitForInterrupt (m : Byte) : Meaning s (waitForInterrupt m s)
  | sync : Meaning s (.next (s.setHalt .syncWait))

/-- Every instruction's meaning is one of the shared operations. -/
theorem exec_meaning (i : Instr) (s : State) : Meaning s (exec i s) := by
  cases i with
  | negDir _ | comDir _ | lsrDir _ | rorDir _ | asrDir _ | aslDir _ | rolDir _ | decDir _ | incDir _ | clrDir _
  | negIdx _ | comIdx _ | lsrIdx _ | rorIdx _ | asrIdx _ | aslIdx _ | rolIdx _ | decIdx _ | incIdx _ | clrIdx _
  | negExt _ | comExt _ | lsrExt _ | rorExt _ | asrExt _ | aslExt _ | rolExt _ | decExt _ | incExt _ | clrExt _ =>
    rw [exec]; exact .modifyMem _ _
  | tstDir _ | tstIdx _ | tstExt _ => exact .testMem _
  | jmpDir _ | jmpIdx _ | jmpExt _ => exact .jump _
  | lbra _ | bra _ | brn _ | bhi _ | bls _ | bcc _ | bcs _ | bne _ | beq _ | bvc _ | bvs _ | bpl _ | bmi _ | bge _
  | blt _ | bgt _ | ble _ => exact .branch _ _
  | lbsr _ | bsr _ => exact .call _
  | orcc _ | andcc _ => exact .setCC _
  | exg _ _ => exact .exchange _ _
  | tfr _ _ => exact .transfer _ _
  | leax _ | leay _ => exact .leaZ _ _
  | leas _ | leau _ => exact .leaNoFlags _ _
  | pshs _ | pshu _ => exact .pushMask _ _
  | puls _ | pulu _ => exact .pullMask _ _
  | cwai _ => exact .waitForInterrupt _
  | subaImm _ | sbcaImm _ | andaImm _ | eoraImm _ | adcaImm _ | oraImm _ | addaImm _ | subaDir _ | sbcaDir _
  | andaDir _ | eoraDir _ | adcaDir _ | oraDir _ | addaDir _ | subaIdx _ | sbcaIdx _ | andaIdx _ | eoraIdx _
  | adcaIdx _ | oraIdx _ | addaIdx _ | subaExt _ | sbcaExt _ | andaExt _ | eoraExt _ | adcaExt _ | oraExt _
  | addaExt _ | subbImm _ | sbcbImm _ | andbImm _ | eorbImm _ | adcbImm _ | orbImm _ | addbImm _ | subbDir _
  | sbcbDir _ | andbDir _ | eorbDir _ | adcbDir _ | orbDir _ | addbDir _ | subbIdx _ | sbcbIdx _ | andbIdx _
  | eorbIdx _ | adcbIdx _ | orbIdx _ | addbIdx _ | subbExt _ | sbcbExt _ | andbExt _ | eorbExt _ | adcbExt _
  | orbExt _ | addbExt _ => rw [exec]; exact .aluAcc _ _ _
  | cmpaImm _ | bitaImm _ | cmpaDir _ | bitaDir _ | cmpaIdx _ | bitaIdx _ | cmpaExt _ | bitaExt _ | cmpbImm _
  | bitbImm _ | cmpbDir _ | bitbDir _ | cmpbIdx _ | bitbIdx _ | cmpbExt _ | bitbExt _ =>
    rw [exec]; exact .testAcc _ _ _
  | subdImm _ | subdDir _ | subdIdx _ | subdExt _ | adddImm _ | adddDir _ | adddIdx _ | adddExt _ =>
    exact .aluD _ _
  | ldaImm _ | ldaDir _ | ldaIdx _ | ldaExt _ | ldbImm _ | ldbDir _ | ldbIdx _ | ldbExt _ => exact .loadAcc _ _
  | cmpxImm _ | cmpxDir _ | cmpxIdx _ | cmpxExt _ | cmpdImm _ | cmpyImm _ | cmpdDir _ | cmpyDir _ | cmpdIdx _
  | cmpyIdx _ | cmpdExt _ | cmpyExt _ | cmpuImm _ | cmpsImm _ | cmpuDir _ | cmpsDir _ | cmpuIdx _ | cmpsIdx _
  | cmpuExt _ | cmpsExt _ => exact .compare16 _ _
  | ldxImm _ | ldxDir _ | ldxIdx _ | ldxExt _ | lddImm _ | lduImm _ | lddDir _ | lduDir _ | lddIdx _ | lduIdx _
  | lddExt _ | lduExt _ | ldyImm _ | ldyDir _ | ldyIdx _ | ldyExt _ | ldsImm _ | ldsDir _ | ldsIdx _ | ldsExt _ =>
    exact .load16 _ _
  | staDir _ | staIdx _ | staExt _ | stbDir _ | stbIdx _ | stbExt _ => exact .storeAcc _ _
  | jsrDir _ | jsrIdx _ | jsrExt _ => exact .jumpSubroutine _
  | stxDir _ | stxIdx _ | stxExt _ | stdDir _ | stuDir _ | stdIdx _ | stuIdx _ | stdExt _ | stuExt _ | styDir _
  | styIdx _ | styExt _ | stsDir _ | stsIdx _ | stsExt _ => exact .store16 _ _
  | lbrn _ | lbhi _ | lbls _ | lbcc _ | lbcs _ | lbne _ | lbeq _ | lbvc _ | lbvs _ | lbpl _ | lbmi _ | lbge _
  | lblt _ | lbgt _ | lble _ => exact .longBranch _ _
  | nop => exact .nothing
  | sync => exact .sync
  | daa => exact .decimalAdjust
  | sex => exact .signExtend
  | rts => exact .pullPC
  | abx => exact .addBtoX
  | rti => exact .returnFromException
  | mul => exact .multiply
  | swi | swi2 | swi3 => exact .takeException _ (by decide) (by decide)
  | nega | coma | lsra | rora | asra | asla | rola | deca | inca | clra | negb | comb | lsrb | rorb | asrb | aslb
  | rolb | decb | incb | clrb => rw [exec]; exact .modifyAcc _ _
  | tsta | tstb => exact .testAccInherent _

/-- An instruction completes; the soft halt it leaves is the one it finds, or that of SYNC, or that of CWAI with E set. -/
def Completes (s : State) (r : Result) : Prop :=
  ∃ t, r = .next t ∧ Keeps s t ∧ (t.halt = s.halt ∨ t.halt = .syncWait ∨ t.flag .e = true)

theorem completes_of_quiet {s t : State} (h : Quiet s t) : Completes s (.next t) := ⟨t, rfl, h.toKeeps, .inl h.halt⟩

theorem completes_waitForInterrupt (m : Byte) (s : State) : Completes s (waitForInterrupt m s) := by
  have stacked : ((s.setCC (s.regs.cc &&& m)).setFlag .e true).pushRegs .s 0xFF = pushAll .s _ _ := pushRegs_eq .s 0xFF _
  unfold waitForInterrupt
  rw [stacked]
  refine ⟨_, rfl, ?_, .inr (.inr ?_)⟩
  · exact ((quiet_setRegs s _).trans ((quiet_setRegs _ _).trans (quiet_pushAll .s _ _))).toKeeps.trans (keeps_setHalt _ _)
  · rw [State.flag, State.setHalt_regs, pushAll_regs]
    exact ccGet_ccPut_self _ .e true

theorem quiet_push16 (k : Stack) (s : State) (v : Word) : Quiet s (s.push16 k v) := by
  rw [push16_eq]
  exact quiet_pushAll k s _

theorem quiet_pullPC (s : State) : Quiet s (s.pullPC .s) := by
  have h := pullPC_pulled .s s 0 s.regs
  rw [pulled_zero] at h
  rw [h]
  exact quiet_pulled .s s _ _

theorem quiet_pushRegs (k : Stack) (mask : Byte) (s : State) : Quiet s (s.pushRegs k mask) := by
  rw [pushRegs_eq]
  exact quiet_pushAll k s _

theorem quiet_pullRegs (k : Stack) (mask : Byte) (s : State) : Quiet s (s.pullRegs k mask) := by
  rw [pullRegs_eq]
  exact (quiet_pullSeq k s _).trans (quiet_setRegs _ _)

theorem quiet_writeWord (s : State) (a v : Word) : Quiet s (s.writeWord a v) :=
  (quiet_writeByte s a _).trans (quiet_writeByte _ _ _)

/-- Every shared operation is a chain of the CPU's work. -/
theorem completes_of_meaning {s : State} {r : Result} (h : Meaning s r) : Completes s r := by
  cases h with
  | sync => exact ⟨_, rfl, keeps_setHalt s _, .inr (.inl rfl)⟩
  | waitForInterrupt m => exact completes_waitForInterrupt m s
  | nothing => exact completes_of_quiet (quiet_refl s)
  | branch k offset =>
    refine completes_of_quiet ?_
    split
    · exact quiet_setRegs s _
    · exact quiet_refl s
  | longBranch k offset =>
    refine completes_of_quiet ?_
    split
    · exact (quiet_setRegs s _).trans (quiet_addCyc _ _)
    · exact quiet_refl s
  | loadAcc k o =>
    exact completes_of_quiet ((quiet_operand8 s o).trans ((quiet_setAcc k _ _).trans (quiet_putFlags _ _)))
  | aluAcc k f o =>
    exact completes_of_quiet ((quiet_operand8 s o).trans ((quiet_setAcc k _ _).trans (quiet_putFlags _ _)))
  | testAcc k f o => exact completes_of_quiet ((quiet_operand8 s o).trans (quiet_putFlags _ _))
  | load16 k o =>
    exact completes_of_quiet ((quiet_operand16 s o).trans ((quiet_set16 k _ _).trans (quiet_putFlags _ _)))
  | aluD f o => exact completes_of_quiet ((quiet_operand16 s o).trans ((quiet_setRegs _ _).trans (quiet_putFlags _ _)))
  | compare16 k o => exact completes_of_quiet ((quiet_operand16 s o).trans (quiet_putFlags _ _))
  | storeAcc k m => exact completes_of_quiet ((quiet_ea s m).trans ((quiet_writeByte _ _ _).trans (quiet_putFlags _ _)))
  | store16 k m => exact completes_of_quiet ((quiet_ea s m).trans ((quiet_writeWord _ _ _).trans (quiet_putFlags _ _)))
  | leaZ k ix =>
    exact completes_of_quiet ((quiet_resolveIndexed s _ ix).trans ((quiet_idxSet k _ _).trans (quiet_putFlags _ _)))
  | leaNoFlags k ix => exact completes_of_quiet ((quiet_resolveIndexed s _ ix).trans (quiet_idxSet k _ _))
  | transfer src dst =>
    rw [transfer, regWrite_eq]
    exact completes_of_quiet (quiet_setRegs s _)
  | exchange r1 r2 =>
    rw [exchange, regWrite_eq, regWrite_eq]
    exact completes_of_quiet (quiet_setRegs s _)
  | decimalAdjust =>
    exact completes_of_quiet ((quiet_countDraw s).trans ((quiet_setRegs _ _).trans (quiet_putFlags _ _)))
  | multiply => exact completes_of_quiet ((quiet_setRegs s _).trans (quiet_putFlags _ _))
  | signExtend => exact completes_of_quiet ((quiet_setRegs s _).trans (quiet_putFlags _ _))
  | addBtoX => exact completes_of_quiet (quiet_setRegs s _)
  | modifyMem f m =>
    exact completes_of_quiet
      ((quiet_ea s m).trans ((quiet_readByte _ _).trans ((quiet_writeByte _ _ _).trans (quiet_putFlags _ _))))
  | modifyAcc k f => exact completes_of_quiet ((quiet_setAcc k s _).trans (quiet_putFlags _ _))
  | testMem m => exact completes_of_quiet ((quiet_ea s m).trans ((quiet_readByte _ _).trans (quiet_putFlags _ _)))
  | testAccInherent k => exact completes_of_quiet (quiet_putFlags s _)
  | jump m => exact completes_of_quiet ((quiet_ea s m).trans (quiet_setRegs _ _))
  | jumpSubroutine m =>
    exact completes_of_quiet ((quiet_ea s m).trans ((quiet_push16 .s _ _).trans (quiet_setRegs _ _)))
  | call target => exact completes_of_quiet ((quiet_push16 .s s _).trans (quiet_setRegs _ _))
  | pushMask k mask => exact completes_of_quiet ((quiet_pushRegs k mask s).trans (quiet_addCyc _ _))
  | pullMask k mask => exact completes_of_quiet ((quiet_pullRegs k mask s).trans (quiet_addCyc _ _))
  | setCC v => exact completes_of_quiet (quiet_setRegs s _)
  | pullPC => exact completes_of_quiet (quiet_pullPC s)
  | takeException e low high => exact completes_of_quiet (quiet_takeException s e low high)
  | returnFromException => exact completes_of_quiet (quiet_returnFromException s)

theorem exec_completes (i : Instr) (s : State) : Completes s (exec i s) := completes_of_meaning (exec_meaning i s)

/-! The CPU's step. -/

/-- E is set while the CPU waits in CWAI (60 R608). -/
def CwaiArmed (s : State) : Prop := s.halt = .cwaiWait → s.flag .e = true

theorem keeps_service (s : State) (e : ExcEntry) (n : Nat) (low : 0xFFE0 ≤ e.vector.toNat)
    (high : e.vector.toNat < 0xFFFF) : Keeps s (s.service e n) := by
  by_cases waiting : s.halt = .cwaiWait
  · rw [service_skip s e n waiting low high]
    exact ⟨rfl, rfl, rfl, fun h => devicesAgree_of_eq h rfl rfl rfl rfl rfl⟩
  · rw [service_full s e n waiting low high]
    exact (quiet_pushAll .s s _).toKeeps.trans ⟨rfl, rfl, rfl, fun h => devicesAgree_of_eq h rfl rfl rfl rfl rfl⟩

/-- The interrupt check keeps the invariant's part; the soft halt is over, or it is as before and no register changed. -/
def Checks (s t : State) : Prop := Keeps s t ∧ (t.halt = .none ∨ (t.halt = s.halt ∧ t.regs = s.regs))

theorem checks_refl (s : State) : Checks s s := ⟨(quiet_refl s).toKeeps, .inr ⟨rfl, rfl⟩⟩

theorem Checks.trans {r s t : State} (h : Checks r s) (k : Checks s t) : Checks r t := by
  obtain ⟨keeps, ended | ⟨halt, regs⟩⟩ := h
  all_goals obtain ⟨keeps', ended' | ⟨halt', regs'⟩⟩ := k
  · exact ⟨keeps.trans keeps', .inl ended'⟩
  · exact ⟨keeps.trans keeps', .inl (halt'.trans ended)⟩
  · exact ⟨keeps.trans keeps', .inl ended'⟩
  · exact ⟨keeps.trans keeps', .inr ⟨halt'.trans halt, regs'.trans regs⟩⟩

theorem checks_serviceNmi (s : State) : Checks s s.serviceNmi :=
  ⟨(keeps_service s nmiEntry _ (by decide) (by decide)).trans
    ⟨rfl, rfl, rfl, fun h => ⟨h.ram, h.inside, h.irqLatch, h.firqLatch, h.vsync⟩⟩, .inl rfl⟩

theorem checks_serviceFirq (s : State) : Checks s s.serviceFirq :=
  ⟨keeps_service s firqEntry _ (by decide) (by decide), .inl rfl⟩

theorem checks_serviceIrq (s : State) : Checks s s.serviceIrq :=
  ⟨keeps_service s irqEntry _ (by decide) (by decide), .inl rfl⟩

theorem checks_serviceReset (s : State) : Checks s s.serviceReset := by
  rw [serviceReset_eq]
  exact ⟨⟨rfl, rfl, rfl, fun h => ⟨h.ram, h.inside, h.irqLatch, h.firqLatch, h.vsync⟩⟩, .inl rfl⟩

theorem checks_releaseSync (s : State) : Checks s s.releaseSync := by
  rcases releaseSync_cases s with same | ⟨_, released⟩
  · rw [same]
    exact checks_refl s
  · rw [released]
    exact ⟨keeps_setHalt s _, .inl rfl⟩

/-- The check of any list of lines, line by line. -/
theorem checks_checkLines (lines : List CpuLine) (s : State) : Checks s (s.checkLines lines) := by
  induction lines generalizing s with
  | nil => exact checks_refl s
  | cons line rest ih =>
    cases line with
    | nmi =>
      rw [State.checkLines]
      split
      · exact checks_serviceNmi s
      · exact ih s
    | firq =>
      rw [checkLines_firq]
      split_ifs
      · exact checks_releaseSync s
      · exact (checks_releaseSync s).trans (ih _)
      · exact checks_serviceFirq s
      · exact ih s
    | irq =>
      rw [checkLines_irq]
      split_ifs
      · exact checks_releaseSync s
      · exact (checks_releaseSync s).trans (ih _)
      · exact checks_serviceIrq s
      · exact ih s
    | reset =>
      rw [State.checkLines]
      split
      · exact checks_serviceReset s
      · exact ih s

theorem cwaiArmed_of_checks {s t : State} (h : Checks s t) (armed : CwaiArmed s) : CwaiArmed t := by
  intro waiting
  rcases h.2 with ended | ⟨halt, regs⟩
  · rw [ended] at waiting
    cases waiting
  · rw [State.flag, regs]
    exact armed (halt.symm.trans waiting)

theorem quiet_fetch8 (s : State) : Quiet s s.fetch8.2 := (quiet_readByte s s.regs.pc).trans (quiet_setRegs _ _)

theorem quiet_fetchMore (n : Nat) (s : State) (bs : List Byte) : Quiet s (s.fetchMore n bs).2 := by
  induction n generalizing s bs with
  | zero => exact quiet_refl s
  | succ n ih =>
    rw [State.fetchMore]
    split
    · exact (quiet_fetch8 s).trans (ih _ _)
    · exact quiet_fetch8 s

/-- What a fetched instruction leaves of a machine that is not halted. -/
theorem runFetched_keeps {d : DecodeResult} {s t : State} (h : runFetched d s = .next t) (running : s.halt = .none) :
    Keeps s t ∧ CwaiArmed t := by
  have halted : ∀ u : State, u = (s.setHalt .invalidOpcode).addCyc 1 → Keeps s u ∧ CwaiArmed u := by
    rintro u rfl
    exact ⟨(keeps_setHalt s _).trans (quiet_addCyc _ 1).toKeeps, fun waiting => by cases waiting⟩
  cases d with
  | instr i fallback rest =>
    obtain ⟨u, next, keeps, halt⟩ := exec_completes i (s.addCyc (s.fetchCycles i fallback))
    rw [runFetched, next] at h
    cases h
    refine ⟨(quiet_addCyc s _).toKeeps.trans keeps, fun waiting => ?_⟩
    rcases halt with same | sync | armed
    · rw [same, State.addCyc_halt, running] at waiting
      cases waiting
    · rw [sync] at waiting
      cases waiting
    · exact armed
  | invalidOpcode rest => exact halted t (by cases h; rfl)
  | truncated => exact halted t (by cases h; rfl)
  | illegalIndexed rest =>
    rw [runFetched, State.illegalPostbyte] at h
    split at h <;> cases h

theorem cpuStep_keeps {s t : State} (h : s.cpuStep = .next t) : Keeps s t ∧ (CwaiArmed s → CwaiArmed t) := by
  have check : Checks s s.interruptCheck := checks_checkLines _ s
  rw [State.cpuStep] at h
  split at h
  next running =>
    have fetch := quiet_fetchMore 5 s.interruptCheck []
    obtain ⟨keeps, armed⟩ := runFetched_keeps h (fetch.halt.trans running)
    exact ⟨check.1.trans (fetch.toKeeps.trans keeps), fun _ => armed⟩
  next =>
    cases h
    rw [State.haltedStep]
    split
    · exact ⟨check.1.trans (quiet_addCyc _ 1).toKeeps,
        fun armed => show CwaiArmed s.interruptCheck from cwaiArmed_of_checks check armed⟩
    · exact ⟨check.1, cwaiArmed_of_checks check⟩

theorem cpuTick_keeps {s t : State} (h : s.cpuTick = .next t) : Keeps s t ∧ (CwaiArmed s → CwaiArmed t) := by
  rw [State.cpuTick] at h
  split_ifs at h
  · cases h
    exact ⟨(quiet_refl s).toKeeps, id⟩
  · cases h
    exact ⟨⟨rfl, rfl, rfl, fun h => devicesAgree_of_eq h rfl rfl rfl rfl rfl⟩, id⟩
  · split at h
    next u step =>
      cases h
      obtain ⟨keeps, armed⟩ := cpuStep_keeps step
      exact ⟨⟨keeps.seq, keeps.platform, keeps.params, fun h => devicesAgree_of_eq (keeps.devices
        (devicesAgree_of_eq h rfl rfl rfl rfl rfl)) rfl rfl rfl rfl rfl⟩, armed⟩
    all_goals cases h

/-! One step. -/

/-- After the inputs and the events of its master tick, a step is the CPU's work. -/
theorem step_keeps {s t : State} (h : step s = .next t) :
    Keeps s.applyEnv.sequence t ∧ (CwaiArmed s.applyEnv.sequence → CwaiArmed t) := by
  rw [step, State.masterTick] at h
  split at h
  · exact cpuTick_keeps h
  · cases h
    exact ⟨(quiet_refl _).toKeeps, id⟩

theorem step_seq {s t : State} (h : step s = .next t) : t.seq = nextCounters s.seq := by
  obtain ⟨seq, _⟩ := sequence_kept s.applyEnv
  obtain ⟨env, _⟩ := applyEnv_kept s
  rw [(step_keeps h).1.seq, seq, env]

/-- Settles O13. -/
theorem noStepWritesTheRomImages : Obligations.NoStepWritesTheRomImages := by
  intro s t h
  obtain ⟨keeps, _⟩ := step_keeps h
  obtain ⟨_, platform, _, _, _, params⟩ := sequence_kept s.applyEnv
  obtain ⟨_, platformEnv, _, _, _, _, paramsEnv⟩ := applyEnv_kept s
  exact ⟨keeps.platform.trans (platform.trans platformEnv), keeps.params.trans (params.trans paramsEnv)⟩

theorem nextCounters_wrap {q : Sequencer} (h : q.dot = 1819) :
    nextCounters q = { masterCycle := q.masterCycle + 1, dot := 0, scanline := if q.scanline = 261 then 0 else q.scanline + 1 } := by
  rw [nextCounters, if_pos (by rw [h]; rfl)]
  simp only [Config.linesPerFrame, Nat.reduceEqDiff]

theorem nextCounters_inside {q : Sequencer} (h : q.dot ≠ 1819) :
    nextCounters q = { q with masterCycle := q.masterCycle + 1, dot := q.dot + 1 } := by
  rw [nextCounters, if_neg (by simpa [Config.dotsPerLine] using h)]

/-- Settles O9. -/
theorem countersAdvanceOneMasterTick : Obligations.CountersAdvanceOneMasterTick := by
  intro s t h
  rw [step_seq h]
  by_cases wrap : s.seq.dot = 1819
  · rw [nextCounters_wrap wrap]
    exact ⟨rfl, fun _ => ⟨rfl, rfl⟩, fun inside => absurd wrap inside⟩
  · rw [nextCounters_inside wrap]
    exact ⟨rfl, fun h => absurd h wrap, fun _ => ⟨rfl, rfl⟩⟩

theorem ramInside_iff (s : State) : s.ramInside = true ↔ ∀ c ∈ s.ram, c.1 < 2 ^ s.params.ramBits := by
  unfold State.ramInside Params.ramSize
  rw [List.all_eq_true]
  exact forall₂_congr fun _ _ => decide_eq_true_iff

/-- The invariant is the agreement of the devices, the range of the counters and the E of CWAI. -/
theorem inv_iff (s : State) :
    Inv s ↔ DevicesAgree s ∧ s.seq.dot < 1820 ∧ s.seq.scanline < 262 ∧ CwaiArmed s := by
  constructor
  · intro h
    exact ⟨⟨h.ram, (ramInside_iff s).2 h.inside, h.irqLatch, h.firqLatch, h.vsync⟩, h.dot, h.scanline, h.cwai⟩
  · rintro ⟨devices, dot, scanline, armed⟩
    exact ⟨devices.ram, (ramInside_iff s).1 devices.inside, dot, scanline, devices.irqLatch, devices.firqLatch,
      devices.vsync, armed⟩

theorem nextCounters_inRange {q : Sequencer} (dot : q.dot < 1820) (scanline : q.scanline < 262) :
    (nextCounters q).dot < 1820 ∧ (nextCounters q).scanline < 262 := by
  by_cases wrap : q.dot = 1819
  · rw [nextCounters_wrap wrap]
    dsimp only
    split <;> omega
  · rw [nextCounters_inside wrap]
    dsimp only
    omega

/-- Settles O10. The sequencer's part is `devicesAgree_sequence`, the CPU's `step_keeps`. -/
theorem invariantIsKeptByEveryStep : Obligations.InvariantIsKeptByEveryStep := by
  intro s t inv h
  obtain ⟨devices, dot, scanline, armed⟩ := (inv_iff s).1 inv
  obtain ⟨keeps, arms⟩ := step_keeps h
  obtain ⟨dot', scanline'⟩ := nextCounters_inRange dot scanline
  have sequenced : CwaiArmed s.applyEnv.sequence := by
    obtain ⟨_, _, _, halt, regs, _⟩ := sequence_kept s.applyEnv
    obtain ⟨_, _, _, haltEnv, ccEnv, _⟩ := applyEnv_kept s
    intro waiting
    rw [State.flag, regs, ccEnv]
    exact armed (haltEnv.symm.trans (halt.symm.trans waiting))
  rw [inv_iff, step_seq h]
  exact ⟨keeps.devices (devicesAgree_sequence devices), dot', scanline', arms sequenced⟩

/-- Settles O11. -/
theorem invariantHoldsAtReset : Obligations.InvariantHoldsAtReset := by
  refine (inv_iff State.reset).2 ⟨⟨wf_reset, ramInside_reset, ?_, ?_, rfl⟩, by decide, by decide, ?_⟩
  · exact ⟨rfl, rfl, rfl, rfl, rfl⟩
  · exact ⟨rfl, rfl, rfl, rfl, rfl⟩
  · intro waiting
    cases waiting

/-- Settles O12. Each clause is a field of the reset state. -/
theorem powerOnStateTheSpecGives : Obligations.PowerOnStateTheSpecGives := by
  refine ⟨?_, ?_, ?_, ?_, ?_, ?_, ?_, ?_, ?_, ?_, ?_, ?_, ?_, ?_, ?_, ?_, ?_, ?_, ?_, ?_, ?_, ?_, ?_, ?_, ?_, ?_⟩
  all_goals rfl

end Sys2Proof.Proofs.Invariant
end

section
/-! PROOF. O5, O6 and O7: fetching and running. The decoder answers as soon as its bytes suffice and leaves what follows
(`decode_append`), so the fetch of bytes below the I/O window stops with the last byte of what they decode to (`fetchMore_eq`). -/

namespace Sys2Proof.Proofs.Fetch

open Sys2Proof Sys2Proof.Machine Sys2Proof.Safety Sys2Proof.Proofs.Codec Sys2Proof.Proofs.CpuTick

/-! More bytes are left over. -/

/-- The same answer with more bytes left after it. -/
def leaving (more : List Byte) : DecodeResult → DecodeResult
  | .instr i fallback rest => .instr i fallback (rest ++ more)
  | .invalidOpcode rest => .invalidOpcode (rest ++ more)
  | .illegalIndexed rest => .illegalIndexed (rest ++ more)
  | .truncated => .truncated

/-- The same indexed operand with more bytes left after it. -/
def leavingIdx (more : List Byte) : IdxResult → IdxResult
  | .ok ix rest => .ok ix (rest ++ more)
  | .illegal rest => .illegal (rest ++ more)
  | .truncated => .truncated

theorem withByte_append (f : Byte → IdxMode) (ind : Bool) (bs more : List Byte) (h : withByte f ind bs ≠ .truncated) :
    withByte f ind (bs ++ more) = leavingIdx more (withByte f ind bs) := by
  cases bs with
  | nil => exact absurd rfl h
  | cons n rest => rfl

theorem withWord_append (f : Word → IdxMode) (ind : Bool) (bs more : List Byte) (h : withWord f ind bs ≠ .truncated) :
    withWord f ind (bs ++ more) = leavingIdx more (withWord f ind bs) := by
  rcases bs with _ | ⟨hi, _ | ⟨lo, rest⟩⟩
  · exact absurd rfl h
  · exact absurd rfl h
  · rfl

theorem decodeIndexed_append (bs more : List Byte) (h : decodeIndexed bs ≠ .truncated) :
    decodeIndexed (bs ++ more) = leavingIdx more (decodeIndexed bs) := by
  cases bs with
  | nil => exact absurd rfl h
  | cons pb rest =>
    rw [List.cons_append]
    unfold decodeIndexed at h ⊢
    dsimp only at h ⊢
    split
    · rfl
    next sub =>
      rw [if_neg sub] at h
      split at h
      case h_8 => exact withByte_append _ _ _ _ h
      case h_9 => exact withWord_append _ _ _ _ h
      case h_11 => exact withByte_append _ _ _ _ h
      case h_12 => exact withWord_append _ _ _ _ h
      case h_13 =>
        split_ifs at h ⊢
        · exact withWord_append _ _ _ _ h
        · rfl
      all_goals rfl

theorem decodeOperand_append (e : Entry) (fallback : Bool) (bs more : List Byte)
    (h : decodeOperand e fallback bs ≠ .truncated) :
    decodeOperand e fallback (bs ++ more) = leaving more (decodeOperand e fallback bs) := by
  cases e with
  | inh i => rfl
  | byte f =>
    cases bs with
    | nil => exact absurd rfl h
    | cons v rest => rfl
  | word f =>
    rcases bs with _ | ⟨hi, _ | ⟨lo, rest⟩⟩
    · exact absurd rfl h
    · exact absurd rfl h
    · rfl
  | regs f =>
    cases bs with
    | nil => exact absurd rfl h
    | cons pb rest => rfl
  | idx f =>
    rw [decodeOperand] at h ⊢
    rw [decodeOperand]
    cases operand : decodeIndexed bs with
    | truncated => simp [operand] at h
    | ok ix rest => rw [decodeIndexed_append bs more (by simp [operand]), operand]; rfl
    | illegal rest => rw [decodeIndexed_append bs more (by simp [operand]), operand]; rfl

theorem decodePage1_append (op : Byte) (fallback : Bool) (bs more : List Byte)
    (h : decodePage1 op fallback bs ≠ .truncated) :
    decodePage1 op fallback (bs ++ more) = leaving more (decodePage1 op fallback bs) := by
  unfold decodePage1 at h ⊢
  cases found : findRow page1 op.toNat with
  | none => rfl
  | some e =>
    rw [found] at h
    exact decodeOperand_append e fallback bs more h

theorem decodePaged_append (page : List (Nat × Entry)) (bs more : List Byte) (h : decodePaged page bs ≠ .truncated) :
    decodePaged page (bs ++ more) = leaving more (decodePaged page bs) := by
  cases bs with
  | nil => exact absurd rfl h
  | cons op rest =>
    rw [List.cons_append]
    unfold decodePaged at h ⊢
    dsimp only at h ⊢
    cases found : findRow page op.toNat with
    | none =>
      rw [found] at h
      exact decodePage1_append op true rest more h
    | some e =>
      rw [found] at h
      exact decodeOperand_append e false rest more h

/-- An answer does not change when more bytes follow. -/
theorem decode_append (bs more : List Byte) (h : decode bs ≠ .truncated) :
    decode (bs ++ more) = leaving more (decode bs) := by
  cases bs with
  | nil => exact absurd rfl h
  | cons op rest =>
    rw [List.cons_append]
    unfold decode at h ⊢
    dsimp only at h ⊢
    split_ifs at h ⊢
    · exact decodePaged_append page2 rest more h
    · exact decodePaged_append page3 rest more h
    · exact decodePage1_append op false rest more h

/-- The bytes an answer leaves. -/
def leftover : DecodeResult → Option (List Byte)
  | .instr _ _ rest => some rest
  | .invalidOpcode rest => some rest
  | .illegalIndexed rest => some rest
  | .truncated => none

/-- Bytes that decode without a rest are too few when one is missing. -/
theorem decode_truncated_of_exact {bs more : List Byte} (whole : leftover (decode (bs ++ more)) = some [])
    (missing : more ≠ []) : decode bs = .truncated := by
  by_contra h
  rw [decode_append bs more h] at whole
  cases answer : decode bs with
  | truncated => exact h answer
  | _ => rw [answer] at whole; simp_all [leaving, leftover]

/-- Bytes that decode without a rest are at most five. -/
theorem length_le_five_of_exact {bs : List Byte} (whole : leftover (decode bs) = some []) : bs.length ≤ 5 := by
  by_contra long
  rcases bs with _ | ⟨a, _ | ⟨b, _ | ⟨c, _ | ⟨d, _ | ⟨e, rest⟩⟩⟩⟩⟩ <;> simp at long
  refine decode_five a b c d e [] (decode_truncated_of_exact (more := rest) whole ?_)
  rintro rfl
  simp at long

/-! The fetch. -/

/-- The bytes at PC, all below the I/O window. -/
def BytesAtPC (s : State) (bytes : List Byte) : Prop :=
  ∀ j, j < bytes.length →
    (s.regs.pc + BitVec.ofNat 16 j).toNat < 0xFF00 ∧
      (s.readByte (s.regs.pc + BitVec.ofNat 16 j)).1 = bytes.getD j 0

/-- PC further by a number of bytes. -/
def pastBytes (s : State) (n : Nat) : State := { s with regs := { s.regs with pc := s.regs.pc + BitVec.ofNat 16 n } }

theorem fetch8_of_bytesAtPC {s : State} {b : Byte} {rest : List Byte} (h : BytesAtPC s (b :: rest)) :
    s.fetch8 = (b, pastBytes s 1) ∧ BytesAtPC (pastBytes s 1) rest := by
  constructor
  · obtain ⟨below, byte⟩ := h 0 (by simp)
    rw [show s.regs.pc + BitVec.ofNat 16 0 = s.regs.pc by simp] at below byte
    rw [fetch8_plain s below, byte]
    rfl
  · intro j inside
    have next : (pastBytes s 1).regs.pc + BitVec.ofNat 16 j = s.regs.pc + BitVec.ofNat 16 (j + 1) := by
      rw [BitVec.ofNat_add, BitVec.add_comm (BitVec.ofNat 16 j), ← BitVec.add_assoc]
      rfl
    rw [next, pastBytes, readByte_withRegs]
    exact h (j + 1) (by simpa using inside)

theorem pastBytes_pastBytes (s : State) (n : Nat) : pastBytes (pastBytes s 1) n = pastBytes s (n + 1) := by
  have next : s.regs.pc + BitVec.ofNat 16 1 + BitVec.ofNat 16 n = s.regs.pc + BitVec.ofNat 16 (n + 1) := by
    rw [BitVec.ofNat_add, BitVec.add_comm (BitVec.ofNat 16 n), ← BitVec.add_assoc]
  unfold pastBytes
  rw [← next]

/-- The fetch takes the bytes that decode without a rest, and no more. -/
theorem fetchMore_eq (n : Nat) (got todo : List Byte) (s : State) (room : todo.length ≤ n) (more : todo ≠ [])
    (bytes : BytesAtPC s todo) (whole : leftover (decode (got ++ todo)) = some []) :
    s.fetchMore n got = (decode (got ++ todo), pastBytes s todo.length) := by
  induction n generalizing got todo s with
  | zero => exact absurd (List.eq_nil_of_length_eq_zero (by omega)) more
  | succ n ih =>
    obtain ⟨b, rest, rfl⟩ := List.exists_cons_of_ne_nil more
    obtain ⟨fetch, bytes'⟩ := fetch8_of_bytesAtPC bytes
    have split_ : got ++ b :: rest = got ++ [b] ++ rest := by simp
    rw [State.fetchMore, fetch]
    dsimp only
    by_cases last : rest = []
    · subst last
      cases answer : decode (got ++ [b]) with
      | truncated => rw [answer] at whole; cases whole
      | _ => rfl
    · rw [split_] at whole ⊢
      rw [decode_truncated_of_exact whole last]
      dsimp only
      rw [ih _ rest _ (by simpa using room) last bytes' whole, pastBytes_pastBytes]
      rfl

theorem fetchInstr_eq {s : State} {bytes : List Byte} (h : BytesAtPC s bytes) (whole : leftover (decode bytes) = some []) :
    s.fetchInstr = (decode bytes, pastBytes s bytes.length) := by
  refine fetchMore_eq 5 [] bytes s (length_le_five_of_exact whole) ?_ h whole
  rintro rfl
  cases whole

/-- Settles O6. -/
theorem fetchReadsTheInstructionAtPC : Obligations.FetchReadsTheInstructionAtPC := by
  intro s i wf bytes
  have decoded := decodeOfEncodeIsTheInstruction i [] wf
  rw [List.append_nil] at decoded
  rw [fetchInstr_eq bytes (by rw [decoded]; rfl), decoded]
  rfl

/-! O7: undefined bytes. -/

section Steps

variable {s c f : State} {rest : List Byte}

theorem cpuStep_invalid (hc : c = s.interruptCheck) (running : c.halt = .none) (fetch : c.fetchInstr = (.invalidOpcode rest, f)) :
    s.cpuStep = .next { f with halt := .invalidOpcode, cyc := f.cyc + 1 } := by
  subst hc
  rw [State.cpuStep, if_pos running, fetch]
  rfl

theorem params_of_fetch (hc : c = s.interruptCheck) {d : DecodeResult} (fetch : c.fetchInstr = (d, f)) : f.params = s.params := by
  obtain ⟨params, _⟩ := fetchMore_kept c 5 []
  rw [show c.fetchMore 5 [] = (d, f) from fetch] at params
  rw [params, hc]
  exact (interruptCheck_kept s).1

theorem cpuStep_illegal (hc : c = s.interruptCheck) (running : c.halt = .none) (fetch : c.fetchInstr = (.illegalIndexed rest, f)) :
    s.cpuStep = if s.params.illegalIndexed = .fault then .fault .illegalIndexed else .refused .illegalIndexed := by
  rw [← params_of_fetch hc fetch]
  subst hc
  rw [State.cpuStep, if_pos running, fetch]
  show f.illegalPostbyte = _
  rw [State.illegalPostbyte]
  cases f.params.illegalIndexed <;> rfl

theorem cpuStep_halted (hc : c = s.interruptCheck) (halted : c.halt ≠ .none) :
    s.cpuStep = .next (if c.cyc = 0 then { c with cyc := 1 } else c) := by
  subst hc
  rw [State.cpuStep, if_neg halted, State.haltedStep]
  split
  next free => rw [State.addCyc, free]
  next => rfl

/-- Bytes that decode to nothing halt the CPU with PC past them. -/
theorem cpuStep_invalidBytes {bytes : List Byte} (hc : c = s.interruptCheck) (running : c.halt = .none)
    (there : BytesAtPC c bytes) (invalid : decode bytes = .invalidOpcode []) :
    s.cpuStep = .next { pastBytes c bytes.length with halt := .invalidOpcode, cyc := c.cyc + 1 } := by
  have fetch := fetchInstr_eq there (by rw [invalid]; rfl)
  rw [invalid] at fetch
  exact cpuStep_invalid hc running fetch

end Steps

theorem bytesAtPC_one {c : State} (below : c.regs.pc.toNat < 0xFF00) : BytesAtPC c [(c.readByte c.regs.pc).1] := by
  intro j inside
  obtain rfl : j = 0 := by simpa using inside
  simpa using below

theorem bytesAtPC_two {c : State} (below : c.regs.pc.toNat < 0xFF00) (below' : (c.regs.pc + 1).toNat < 0xFF00) :
    BytesAtPC c [(c.readByte c.regs.pc).1, (c.readByte (c.regs.pc + 1)).1] := by
  intro j inside
  obtain rfl | rfl : j = 0 ∨ j = 1 := by simp at inside; omega
  · simpa using below
  · exact ⟨below', rfl⟩

/-- A byte outside the page-1 map is invalid after 0x10 and 0x11, be it one of them or not. -/
theorem decode_prefixed_invalid {p b : Byte} (hp : p = 0x10 ∨ p = 0x11) (h : ¬ Mapped b.toNat) :
    decode [p, b] = .invalidOpcode [] := by
  by_cases doubled : b = 0x10 ∨ b = 0x11
  · exact decode_prefix_prefix [] hp doubled
  · obtain ⟨no10, no11⟩ := not_or.1 doubled
    obtain ⟨_, after10, after11⟩ := decode_of_not_mapped [] h no10 no11
    rcases hp with rfl | rfl
    · exact after10
    · exact after11

/-- Settles O7. -/
theorem undefinedOpcodeAndPostbyteSteps : Obligations.UndefinedOpcodeAndPostbyteSteps := by
  intro s c f rest hc
  refine ⟨cpuStep_invalid hc, cpuStep_illegal hc, cpuStep_halted hc, fun running below unmapped no10 no11 => ?_,
    fun running below below' hp unmapped => ?_⟩
  · exact cpuStep_invalidBytes hc running (bytesAtPC_one below) (decode_of_not_mapped [] unmapped no10 no11).1
  · exact cpuStep_invalidBytes hc running (bytesAtPC_two below below') (decode_prefixed_invalid hp unmapped)

/-! O5: the rows' costs and the step. -/

/-- The opcode bytes of a row: its number as one byte that is neither 0x10 nor 0x11, or as one of these and a byte. -/
theorem opcodeBytes_cases {n : Nat} (h : Mapped n) :
    (∃ b, opcodeBytes n = [b] ∧ b ≠ 0x10 ∧ b ≠ 0x11 ∧ b.toNat = n) ∨
      ∃ p b, opcodeBytes n = [p, b] ∧ (p = 0x10 ∨ p = 0x11) ∧ p.toNat * 0x100 + b.toNat = n := by
  obtain ⟨row, inMap, rfl⟩ := h
  generalize number : row.1 = n
  have low : (BitVec.ofNat 8 (n % 0x100)).toNat = n % 0x100 := toNat_ofNat8 (by omega)
  rcases List.mem_append.1 inMap with h12 | h3
  rcases List.mem_append.1 h12 with h1 | h2
  · obtain ⟨small, no10, no11⟩ := opcodeMap1_numbers n (number ▸ List.mem_map_of_mem h1)
    have value := toNat_ofNat8 small
    exact .inl ⟨_, if_pos small, fun p => no10 (by rw [← value, p]; rfl), fun p => no11 (by rw [← value, p]; rfl), value⟩
  · have page := opcodeMap2_numbers n (number ▸ List.mem_map_of_mem h2)
    refine .inr ⟨0x10, BitVec.ofNat 8 (n % 0x100), by simp [opcodeBytes, page]; omega, .inl rfl, ?_⟩
    rw [low, show (0x10 : Byte).toNat = 0x10 from rfl]
    omega
  · have page := opcodeMap3_numbers n (number ▸ List.mem_map_of_mem h3)
    refine .inr ⟨0x11, BitVec.ofNat 8 (n % 0x100), by simp [opcodeBytes, page]; omega, .inr rfl, ?_⟩
    rw [low, show (0x11 : Byte).toNat = 0x11 from rfl]
    omega

/-- The number of an instruction whose bytes begin with the opcode bytes of a map row. -/
theorem opcodeNumber_of_encode {i : Instr} {n : Nat} {operand : List Byte} (mapped : Mapped n)
    (bytes : encode i = opcodeBytes n ++ operand) : opcodeNumber i = n := by
  rcases opcodeBytes_cases mapped with ⟨b, single, no10, no11, value⟩ | ⟨p, b, double, hp, value⟩
  · rw [single] at bytes
    exact (opcodeNumber_page1 i b operand bytes no10 no11).trans value
  · rw [double] at bytes
    exact (opcodeNumber_prefixed i p b operand bytes hp).trans value

/-- With every operand, the bytes of a row's instruction begin with the row's opcode bytes, and it costs the row's cycles. -/
def RowEncodes (n cycles : Nat) : Entry → Prop
  | .inh i => ∃ operand, encode i = opcodeBytes n ++ operand ∧ baseCycles i = cycles
  | .byte f => ∀ v, ∃ operand, encode (f v) = opcodeBytes n ++ operand ∧ baseCycles (f v) = cycles
  | .word f => ∀ w, ∃ operand, encode (f w) = opcodeBytes n ++ operand ∧ baseCycles (f w) = cycles
  | .regs f => ∀ src dst, ∃ operand, encode (f src dst) = opcodeBytes n ++ operand ∧ baseCycles (f src dst) = cycles
  | .idx f => ∀ ix, ∃ operand, encode (f ix) = opcodeBytes n ++ operand ∧ baseCycles (f ix) = cycles

theorem rowEncodes : ∀ row ∈ opcodeMap, RowEncodes row.1 row.2.2 row.2.1 := by
  refine opcodeMap_forall _ ?_
  simp only [mapRows, map1Row0, map1Row1, map1Row2, map1Row3, map1Row4, map1Row5, map1Row6, map1Row7, map1Row8, map1Row9,
    map1RowA, map1RowB, map1RowC, map1RowD, map1RowE, map1RowF, map2Row2, map2Row3, map2Row8, map2Row9, map2RowA, map2RowB,
    map2RowC, map2RowD, map2RowE, map2RowF, map3Row3, map3Row8, map3Row9, map3RowA, map3RowB, List.forall_mem_cons,
    List.not_mem_nil, false_imp_iff, implies_true, and_true]
  and_intros
  all_goals first
    | exact ⟨_, rfl, rfl⟩
    | exact fun _ => ⟨_, rfl, rfl⟩
    | exact fun _ _ => ⟨_, rfl, rfl⟩

theorem rowCosts : ∀ row ∈ opcodeMap, RowCosts row.1 row.2.2 row.2.1 := by
  rintro ⟨n, e, cycles⟩ inMap
  have mapped : Mapped n := ⟨_, inMap, rfl⟩
  have cost : ∀ i, (∃ operand, encode i = opcodeBytes n ++ operand ∧ baseCycles i = cycles) →
      opcodeNumber i = n ∧ baseCycles i = cycles := by
    rintro i ⟨operand, bytes, base⟩
    exact ⟨opcodeNumber_of_encode mapped bytes, base⟩
  have row := rowEncodes _ inMap
  cases e with
  | inh i => exact cost i row
  | byte f => exact fun v => cost _ (row v)
  | word f => exact fun w => cost _ (row w)
  | regs f => exact fun src dst => cost _ (row src dst)
  | idx f => exact fun ix => cost _ (row ix)

theorem cpuDiv_eq (s : State) : s.cpuDiv = if s.sam.getLsbD 12 then 16 else 32 := rfl

/-- A step of the machine with nothing in its way runs the instruction that was fetched. -/
theorem step_runs {s c f : State} {i : Instr} {fallback : Bool} {rest : List Byte}
    (due : s.applyEnv.sequence.seq.masterCycle % s.applyEnv.sequence.cpuDiv = 0)
    (free : s.applyEnv.sequence.hwHalt = false) (idle : s.applyEnv.sequence.pending = 0)
    (hc : c = s.applyEnv.sequence.startStep.interruptCheck) (running : c.halt = .none)
    (fetch : c.fetchInstr = (.instr i fallback rest, f)) :
    step s = chargeOutcome (exec i (f.addCyc (f.fetchCycles i fallback))) := by
  rw [step, State.masterTick, if_pos due, cpuTick_of_idle free idle, State.cpuStep, ← hc, if_pos running, fetch]
  rfl

/-- Settles O5. -/
theorem stepRunsTheDecodedInstruction : Obligations.StepRunsTheDecodedInstruction := by
  refine ⟨cpuDiv_eq, fun s => rfl, rowCosts, ?_⟩
  intro s c f i fallback rest u cycles due free idle hc running fetch
  have params : f.params = s.params := by
    obtain ⟨_, _, _, _, _, sequence⟩ := sequence_kept s.applyEnv
    obtain ⟨_, _, _, _, _, _, env⟩ := applyEnv_kept s
    exact (params_of_fetch hc fetch).trans (sequence.trans env)
  have cost : f.fetchCycles i fallback = cycles + if fallback then s.params.fallbackExtraCycles else 0 := by
    rw [State.fetchCycles, State.rowCycles, params]
  rw [step_runs due free idle hc running fetch, cost]
  cases exec i (f.addCyc (cycles + if fallback then s.params.fallbackExtraCycles else 0)) with
  | next t => rfl
  | fault e => rfl
  | refused e => rfl

end Sys2Proof.Proofs.Fetch
end

section
/-! PROOF. O14 to O20: addressing, operand reads, loads, stores and LEA (30 R155 to R172, 41 R300 to R317). What evaluating an
operand does is `OperandEffect`; an instruction then writes registers and flags over that state, so its frame is one lemma per
kind of register it writes. -/

namespace Sys2Proof.Proofs.Operands

open Sys2Proof Sys2Proof.Machine Sys2Proof.Safety

/-! Flags. -/

/-- What a record of flag writes gives a flag. -/
def written (fl : FlagWrites) : Machine.Flag → Option Bool
  | .h => fl.h
  | .n => fl.n
  | .z => fl.z
  | .v => fl.v
  | .c => fl.c
  | .i => none
  | .f => none
  | .e => none

/-- The flags a record of flag writes gives a value, in the order in which CC takes them. -/
def listed (fl : FlagWrites) : List (Machine.Flag × Bool) :=
  [Flag.h, Flag.n, Flag.z, Flag.v, Flag.c].filterMap fun k => (written fl k).map fun b => (k, b)

theorem mem_listed (fl : FlagWrites) (k : Machine.Flag) (b : Bool) : (k, b) ∈ listed fl ↔ written fl k = some b := by
  cases k <;> simp [listed, written]

theorem ccGet_applyFlags_written (fl : FlagWrites) (cc : Byte) (k : Machine.Flag) :
    ccGet (applyFlags fl cc) k = (written fl k).getD (ccGet cc k) := by
  rw [ccGet_applyFlags]
  cases k <;> rfl

/-- Writing the flags of a record sets those it lists. -/
theorem flagsSet_listed {s t : State} (fl : FlagWrites) (cc : t.regs.cc = applyFlags fl s.regs.cc) :
    FlagsSet s t (listed fl) := by
  refine flagsSet_applyFlags fl cc _ fun c => ⟨fun ⟨k, b⟩ hp => ?_, fun k hk => ?_⟩
  · rw [ccGet_applyFlags_written, (mem_listed fl k b).mp hp]
    rfl
  · have unwritten : written fl k = none :=
      Option.eq_none_iff_forall_ne_some.mpr fun b h => hk (List.mem_map_of_mem ((mem_listed fl k b).mpr h))
    rw [ccGet_applyFlags_written, unwritten]
    rfl

theorem flagsSet_nil {s t : State} (cc : t.regs.cc = s.regs.cc) : FlagsSet s t [] :=
  ⟨fun _ hp => absurd hp List.not_mem_nil, fun k _ => flag_of_cc cc k⟩

/-! Register writes: what is read back, and the frame over an operand's evaluation. -/

@[simp] theorem acc_setAcc (s : State) (k : Acc) (v : Byte) : (s.setAcc k v).acc k = v := by cases k <;> rfl

@[simp] theorem setAcc_cc (s : State) (k : Acc) (v : Byte) : (s.setAcc k v).regs.cc = s.regs.cc := by cases k <;> rfl

@[simp] theorem acc_putFlags (s : State) (fl : FlagWrites) (k : Acc) : (s.putFlags fl).acc k = s.acc k := by
  cases k <;> rfl

@[simp] theorem get16_set16 (s : State) (k : Reg16) (v : Word) : (s.set16 k v).get16 k = v := by
  cases k <;> first | rfl | exact joinBytes_hiByte_loByte v

@[simp] theorem set16_cc (s : State) (k : Reg16) (v : Word) : (s.set16 k v).regs.cc = s.regs.cc := by cases k <;> rfl

@[simp] theorem get16_putFlags (s : State) (fl : FlagWrites) (k : Reg16) : (s.putFlags fl).get16 k = s.get16 k := by
  cases k <;> rfl

@[simp] theorem idxSet_cc (s : State) (k : IdxReg) (v : Word) : (s.idxSet k v).regs.cc = s.regs.cc := by
  cases k <;> rfl

@[simp] theorem readReg_idxSet (s : State) (k : IdxReg) (v : Word) : readReg (s.idxSet k v).regs (nameOf k) = v := by
  cases k <;> rfl

@[simp] theorem readReg_putFlags (s : State) (fl : FlagWrites) (q : RegName) :
    readReg (s.putFlags fl).regs q = readReg s.regs q := by
  cases q <;> rfl

@[simp] theorem putFlags_cc (s : State) (fl : FlagWrites) : (s.putFlags fl).regs.cc = applyFlags fl s.regs.cc := rfl

/-- A register write changes the named registers only. -/
theorem readReg_setAcc_of_ne (s : State) (k : Acc) (v : Byte) (q : RegName) (hq : q ∉ [accName k]) :
    readReg (s.setAcc k v).regs q = readReg s.regs q := by
  cases k <;> cases q <;> first | rfl | exact absurd (List.mem_singleton.mpr rfl) hq

theorem readReg_set16_of_ne (s : State) (k : Reg16) (v : Word) (q : RegName) (hq : q ∉ reg16Names k) :
    readReg (s.set16 k v).regs q = readReg s.regs q := by
  cases k <;> cases q <;> first | rfl | exact absurd (by decide) hq

theorem readReg_idxSet_of_ne (s : State) (k : IdxReg) (v : Word) (q : RegName) (hq : q ∉ [nameOf k]) :
    readReg (s.idxSet k v).regs q = readReg s.regs q := by
  cases k <;> cases q <;> first | rfl | exact absurd (List.mem_singleton.mpr rfl) hq

section Frames

variable {s r : State} {auto : List RegName} {n : Nat}

theorem frame_putFlags (h : OperandEffect s r auto n) (fl : FlagWrites) :
    OperandFrame s r (r.putFlags fl) auto [] :=
  operandFrame_setRegs h _ rfl fun q _ => readReg_putFlags r fl q

theorem frame_setAcc_putFlags (h : OperandEffect s r auto n) (k : Acc) (v : Byte) (fl : FlagWrites) :
    OperandFrame s r ((r.setAcc k v).putFlags fl) auto [accName k] :=
  operandFrame_setRegs h _ (by cases k <;> rfl) fun q hq => by
    rw [readReg_putFlags, readReg_setAcc_of_ne r k v q hq]

theorem frame_set16_putFlags (h : OperandEffect s r auto n) (k : Reg16) (v : Word) (fl : FlagWrites) :
    OperandFrame s r ((r.set16 k v).putFlags fl) auto (reg16Names k) :=
  operandFrame_setRegs h _ (by cases k <;> rfl) fun q hq => by
    rw [readReg_putFlags, readReg_set16_of_ne r k v q hq]

theorem flagsSet_setAcc_putFlags (h : OperandEffect s r auto n) (k : Acc) (v : Byte) (fl : FlagWrites) :
    FlagsSet s ((r.setAcc k v).putFlags fl) (listed fl) :=
  flagsSet_listed fl (by rw [putFlags_cc, setAcc_cc, h.cc])

theorem flagsSet_set16_putFlags (h : OperandEffect s r auto n) (k : Reg16) (v : Word) (fl : FlagWrites) :
    FlagsSet s ((r.set16 k v).putFlags fl) (listed fl) :=
  flagsSet_listed fl (by rw [putFlags_cc, set16_cc, h.cc])

theorem flagsSet_putFlags (h : OperandEffect s r auto n) (fl : FlagWrites) :
    FlagsSet s (r.putFlags fl) (listed fl) :=
  flagsSet_listed fl (by rw [putFlags_cc, h.cc])

end Frames

/-! Addresses (30 R155 to R172). -/

/-- A sub-mode without the indirect flag. -/
theorem resolveIndexed_direct (s : State) (lea : Option IdxReg) (m : IdxMode) :
    s.resolveIndexed lea ⟨m, false⟩ =
      (BitVec.ofInt 16 (indexedSum s m), { s with regs := resolvedRegs s lea m, cyc := s.cyc + modeCycles m }) := by
  rw [resolveIndexed_eq]
  rfl

/-- The indirect flag adds the read of a word at the address of the sub-mode, and 3 cycles (30 R169, R172). -/
theorem resolveIndexed_indirect (s : State) (lea : Option IdxReg) (m : IdxMode) :
    s.resolveIndexed lea ⟨m, true⟩ =
      ((s.resolveIndexed lea ⟨m, false⟩).2.addCyc 3).readWord (s.resolveIndexed lea ⟨m, false⟩).1 := by
  rw [resolveIndexed_direct, resolveIndexed_eq]
  rfl

/-- Settles O14. -/
theorem effectiveAddressesAndWriteBack : Obligations.EffectiveAddressesAndWriteBack := by
  refine ⟨fun s d w => ⟨toNat_joinBytes _ _, rfl, rfl⟩, fun s lea m => ⟨?direct, resolveIndexed_indirect s lea m⟩⟩
  case direct =>
    rw [resolveIndexed_direct]
    cases m <;> rfl

/-! Operand reads. -/

theorem readWord_parts (s : State) (a : Word) :
    (s.readWord a).1.toNat = 256 * (s.readByte a).1.toNat + ((s.readByte a).2.readByte (a + 1)).1.toNat ∧
      (s.readWord a).2 = ((s.readByte a).2.readByte (a + 1)).2 :=
  ⟨(toNat_joinBytes _ _).trans (by rw [Nat.mul_comm]), rfl⟩

/-- Settles O15. -/
theorem operandReadsLeaveTheRest : Obligations.OperandReadsLeaveTheRest := by
  have unpack {s t : State} {auto : List RegName} {n : Nat} (h : OperandEffect s t auto n) :
      RegsKept s t auto ∧ t.regs.cc = s.regs.cc ∧ RamKept s t [] ∧ ReadEffect s t ∧ t.cyc = s.cyc + n :=
    ⟨h.registers, h.cc, ramKept_of_ram_eq h.ram [], h.reads, h.cycles⟩
  refine ⟨fun s o => unpack (operand8_effect s o), fun s o => unpack (operand16_effect s o),
    fun s m => unpack (ea_effect s m), fun s v w => ⟨rfl, rfl⟩,
    fun s m => ⟨rfl, readWord_parts (s.ea m).2 (s.ea m).1⟩, readWord_parts, fun s d a => ⟨fun h => ?_, readByte_pure s a⟩⟩
  exact readByte_pure s _ (by rwa [← toNat_joinBytes] at h)

/-! Loads. -/

/-- Settles O16. -/
theorem loadsOfAccumulators : Obligations.LoadsOfAccumulators := by
  intro k o s r
  have read := operand8_effect s o
  exact ⟨_, exec_loadByte k o s, by simp [r], flagsSet_setAcc_putFlags read k _ (moveFlags8 _),
    frame_setAcc_putFlags read k _ _⟩

/-- Settles O17. -/
theorem loadsOfWordRegisters : Obligations.LoadsOfWordRegisters := by
  intro k o s r
  have read := operand16_effect s o
  exact ⟨_, exec_loadWord k o s, by simp [r], flagsSet_set16_putFlags read k _ (moveFlags16 _),
    frame_set16_putFlags read k _ _⟩

/-! Stores. -/

/-- Flag writes over a state that has the registers of `r` leave every register. -/
theorem regsKept_putFlags {r w : State} (h : w.regs = r.regs) (fl : FlagWrites) : RegsKept r (w.putFlags fl) [] := by
  intro q _
  rw [readReg_putFlags, h]

theorem ramKept_writeByte {s w : State} (h : w.ram = s.ram) (a : Word) (v : Byte) :
    RamKept s (w.writeByte a v) (w.storeAddr a).toList := by
  intro p hp
  rw [ramRead_writeByte_of_ne w a v p (by simpa using hp), h]

theorem ramKept_append {r s t : State} {l l' : List Nat} (h : RamKept r s l) (h' : RamKept s t l') :
    RamKept r t (l ++ l') := by
  intro p hp
  rw [List.mem_append, not_or] at hp
  rw [h' p hp.2, h p hp.1]

theorem writeWord_regs (s : State) (a v : Word) : (s.writeWord a v).regs = s.regs := by
  rw [State.writeWord, writeByte_regs, writeByte_regs]

theorem systemKept_putFlags (s : State) (fl : FlagWrites) : SystemKept s (s.putFlags fl) := rfl

/-- Settles O18. -/
theorem storesOfAccumulators : Obligations.StoresOfAccumulators := by
  intro k m s r v
  have addr := ea_effect s m
  have regs : RegsKept r.2 ((r.2.writeByte r.1 v).putFlags (moveFlags8 v)) [] :=
    regsKept_putFlags (writeByte_regs _ _ _) _
  exact ⟨_, exec_storeByte k m s,
    flagsSet_listed (moveFlags8 v) (by rw [putFlags_cc, writeByte_regs, addr.cc]),
    regs, regsKept_trans addr.registers regs, ramKept_writeByte addr.ram r.1 v,
    fun p hp wf => ramRead_writeByte_self r.2 r.1 v p hp (by rw [addr.ram]; exact wf),
    systemKept_putFlags _ _, writeByte_cyc r.2 r.1 v⟩

/-- Settles O19. -/
theorem storesOfWordRegisters : Obligations.StoresOfWordRegisters := by
  intro k m s r v w
  have addr := ea_effect s m
  have wfRead (wf : s.ram.wf = true) : r.2.ram.wf = true := by rw [addr.ram]; exact wf
  have regs : RegsKept r.2 ((w.writeByte (r.1 + 1) (loByte v)).putFlags (moveFlags16 v)) [] :=
    regsKept_putFlags (by rw [writeByte_regs, writeByte_regs]) _
  refine ⟨_, exec_storeWord k m s,
    flagsSet_listed (moveFlags16 v) (by rw [putFlags_cc, writeWord_regs, addr.cc]),
    regs, regsKept_trans addr.registers regs,
    ramKept_append (ramKept_writeByte addr.ram r.1 _) (ramKept_writeByte rfl (r.1 + 1) _), ?low, ?high,
    systemKept_putFlags _ _, ?cycles⟩
  case low =>
    intro p hp wf
    exact ramRead_writeByte_self w _ _ p hp (wf_writeByte _ _ _ (wfRead wf))
  case high =>
    intro p hp hne wf
    exact (ramRead_writeByte_of_ne w _ _ p hne).trans (ramRead_writeByte_self r.2 r.1 _ p hp (wfRead wf))
  case cycles => exact (writeByte_cyc w _ _).trans (writeByte_cyc r.2 _ _)

/-! LEA. -/

/-- Settles O20. -/
theorem loadEffectiveAddress : Obligations.LoadEffectiveAddress := by
  intro k ix s r
  have addr := resolveIndexed_effect s (some k) ix
  rw [exec_lea]
  by_cases sets : k = .x ∨ k = .y
  · rw [if_pos sets, if_pos sets]
    exact ⟨_, rfl, by rw [readReg_putFlags, readReg_idxSet],
      flagsSet_listed { z := some (r.1 == 0) } (by rw [putFlags_cc, idxSet_cc, addr.cc]),
      operandFrame_setRegs addr _ (by cases k <;> rfl) fun q hq => by
        rw [readReg_putFlags, readReg_idxSet_of_ne _ k _ q hq]⟩
  · rw [if_neg sets, if_neg sets]
    exact ⟨_, rfl, readReg_idxSet _ _ _, flagsSet_nil (by rw [idxSet_cc, addr.cc]),
      operandFrame_setRegs addr _ (by cases k <;> rfl) fun q hq => readReg_idxSet_of_ne _ k _ q hq⟩

end Sys2Proof.Proofs.Operands
end

section
/-! PROOF. O23 to O36 and O38: the arithmetic, logic and unary instructions (40 R200 to R215, 42, 43, 44) and the branches after
a compare. The flags an ALU function lists are those of the statement; only how V and C are read off differs. -/

namespace Sys2Proof.Proofs.Arithmetic

open Sys2Proof Sys2Proof.Machine Sys2Proof.Safety Sys2Proof.Proofs.Operands

/-! The flags of the ALU functions, as the statements give them. -/

theorem getLsbD_last {w : Nat} (x : BitVec (w + 1)) : x.msb = x.getLsbD w := by
  rw [BitVec.msb_eq_getLsbD_last, Nat.add_sub_cancel]

theorem listed_add8 (a m : Byte) (cin : Bool) :
    let sum := a.toNat + m.toNat + cin.toNat
    let res : Byte := BitVec.ofNat 8 sum
    listed (add8 a m cin).fl =
      [(.h, decide (15 < a.toNat % 16 + m.toNat % 16 + cin.toNat)), (.n, res.msb), (.z, res == 0),
        (.v, ((a ^^^ res) &&& (m ^^^ res)).getLsbD 7), (.c, decide (255 < sum))] := by
  intro sum res
  have carry : sum.testBit 8 = decide (255 < sum) := AluFlags.sum_carry a m cin
  have overflow := getLsbD_last ((a ^^^ res) &&& (m ^^^ res))
  rw [← carry, ← overflow]
  rfl

theorem listed_sub8 (a m : Byte) (cin : Bool) :
    let diff : Int := a.toNat - m.toNat - cin.toNat
    let res : Byte := BitVec.ofInt 8 diff
    listed (sub8 a m cin).fl =
      [(.n, res.msb), (.z, res == 0), (.v, ((a ^^^ m) &&& (a ^^^ res)).getLsbD 7), (.c, decide (diff < 0))] := by
  intro diff res
  rw [← getLsbD_last ((a ^^^ m) &&& (a ^^^ res))]
  rfl

theorem listed_add16 (a m : Word) :
    let sum := a.toNat + m.toNat
    let res : Word := BitVec.ofNat 16 sum
    listed (add16 a m).fl =
      [(.n, res.msb), (.z, res == 0), (.v, ((a ^^^ res) &&& (m ^^^ res)).getLsbD 15), (.c, decide (65535 < sum))] := by
  intro sum res
  have carry : sum.testBit 16 = decide (65535 < sum) := AluFlags.sum_carry a m false
  have overflow := getLsbD_last ((a ^^^ res) &&& (m ^^^ res))
  rw [← carry, ← overflow]
  rfl

theorem listed_sub16 (a m : Word) :
    let diff : Int := a.toNat - m.toNat
    let res : Word := BitVec.ofInt 16 diff
    listed (sub16 a m).fl =
      [(.n, res.msb), (.z, res == 0), (.v, ((a ^^^ m) &&& (a ^^^ res)).getLsbD 15), (.c, decide (diff < 0))] := by
  intro diff res
  rw [← getLsbD_last ((a ^^^ m) &&& (a ^^^ res))]
  rfl

/-! 8-bit arithmetic and logic. -/

/-- An operation on an accumulator: the result, the flags its function lists, and the frame. -/
theorem aluAcc_effect (k : Acc) (f : Byte → Byte → Bool → Alu8) (o : Src8) (s : State) :
    let r := s.operand8 o
    let out := f (r.2.acc k) r.1 (s.flag .c)
    ∃ t, aluAcc k f o s = .next t ∧ t.acc k = out.r ∧ FlagsSet s t (listed out.fl) ∧
      OperandFrame s r.2 t (auto8 o) [accName k] := by
  intro r out
  have read := operand8_effect s o
  have carry : r.2.flag .c = s.flag .c := flag_of_cc read.cc .c
  refine ⟨(r.2.setAcc k out.r).putFlags out.fl, ?_, ?_, flagsSet_setAcc_putFlags read k _ _,
    frame_setAcc_putFlags read k _ _⟩
  · simp only [aluAcc, out, ← carry, r]
  · rw [acc_putFlags, acc_setAcc]

/-- A compare or bit test: the flags its function lists, and the frame. -/
theorem testAcc_effect (k : Acc) (f : Byte → Byte → Alu8) (o : Src8) (s : State) :
    let r := s.operand8 o
    ∃ t, testAcc k f o s = .next t ∧ FlagsSet s t (listed (f (r.2.acc k) r.1).fl) ∧
      OperandFrame s r.2 t (auto8 o) [] :=
  have read := operand8_effect s o
  ⟨_, rfl, flagsSet_putFlags read _, frame_putFlags read _⟩

/-- Settles O23. -/
theorem additionToAccumulators : Obligations.AdditionToAccumulators := by
  intro k withCarry o s r a cin sum res
  obtain ⟨t, run, value, flags, frame⟩ := aluAcc_effect k (fun a m f => add8 a m (withCarry && f)) o s
  rw [listed_add8] at flags
  exact ⟨t, (exec_addInstr k withCarry o s).trans run, value, flags, frame⟩

/-- Settles O24. -/
theorem subtractionFromAccumulators : Obligations.SubtractionFromAccumulators := by
  intro k withCarry o s r a cin diff res
  obtain ⟨t, run, value, flags, frame⟩ := aluAcc_effect k (fun a m f => sub8 a m (withCarry && f)) o s
  rw [listed_sub8] at flags
  exact ⟨t, (exec_subInstr k withCarry o s).trans run, value, flags, frame⟩

/-- Settles O25. -/
theorem comparisonOfAccumulators : Obligations.ComparisonOfAccumulators := by
  intro k o s r a diff res
  obtain ⟨t, run, flags, frame⟩ := testAcc_effect k (fun a m => sub8 a m false) o s
  have noBorrow : (a.toNat : Int) - r.1.toNat - (false.toNat : Nat) = diff := Int.sub_zero _
  rw [listed_sub8, noBorrow] at flags
  exact ⟨t, (exec_cmpInstr k o s).trans run, flags, frame⟩

/-- A logic operation computes bit by bit (40 R206). -/
theorem getLsbD_logicAlu (op : LogicOp) (a m : Byte) (i : Nat) :
    (logicAlu op a m).r.getLsbD i = logicBit op (a.getLsbD i) (m.getLsbD i) := by
  cases op
  case and => exact BitVec.getLsbD_and
  case or => exact BitVec.getLsbD_or
  case eor => exact BitVec.getLsbD_xor

theorem listed_logicAlu (op : LogicOp) (a m : Byte) :
    listed (logicAlu op a m).fl =
      [(.n, (logicAlu op a m).r.msb), (.z, (logicAlu op a m).r == 0), (.v, false)] := by
  cases op <;> rfl

/-- Settles O26. -/
theorem logicOnAccumulators : Obligations.LogicOnAccumulators := by
  intro op k o s r
  obtain ⟨t, run, value, flags, frame⟩ := aluAcc_effect k (fun a m _ => logicAlu op a m) o s
  rw [listed_logicAlu, ← value] at flags
  refine ⟨t, (exec_logicInstr op k o s).trans run, fun i _ => ?_, flags, frame⟩
  rw [value]
  exact getLsbD_logicAlu op _ _ i

/-- Settles O27. -/
theorem bitTestOfAccumulators : Obligations.BitTestOfAccumulators := by
  intro k o s r a
  obtain ⟨t, run, flags, frame⟩ := testAcc_effect k and8 o s
  have sign : (a &&& r.1).msb = (a.getLsbD 7 && r.1.getLsbD 7) := by
    rw [BitVec.msb_and, getLsbD_last, getLsbD_last]
  rw [← sign]
  exact ⟨t, (exec_bitInstr k o s).trans run, flags, frame⟩

/-! Decimal adjust. -/

/-- The correction, with its tests as propositions (40 R214). -/
theorem daaCorrection_eq (a : Byte) (c h : Bool) :
    daaCorrection a c h =
      (if h = true ∨ 9 < a.toNat % 16 then 0x06 else 0) +
        (if c = true ∨ 9 < a.toNat / 16 ∨ (8 < a.toNat / 16 ∧ 9 < a.toNat % 16) then 0x60 else 0) := by
  simp [daaCorrection, or_assoc]

theorem daaCorrection_le (a : Byte) (c h : Bool) : daaCorrection a c h ≤ 0x66 := by
  rw [daaCorrection_eq]
  split <;> split <;> omega

/-- Bit 8 of a number below 512 says that it exceeds a byte. -/
theorem testBit_eight (n : Nat) (h : n < 512) : n.testBit 8 = decide (255 < n) := by
  rw [Nat.testBit_eq_decide_div_mod_eq, decide_eq_decide]
  omega

/-- Settles O28. -/
theorem decimalAdjustOfA : Obligations.DecimalAdjustOfA := by
  intro s a lsn msn low high sum res
  have correction : daaCorrection a (s.flag .c) (s.flag .h) = low + high := daaCorrection_eq _ _ _
  have carry : sum.testBit 8 = decide (255 < sum) := by
    have := daaCorrection_le a (s.flag .c) (s.flag .h)
    have := a.isLt
    exact testBit_eight sum (by omega)
  have adjusted : daa8 a (s.flag .c) (s.flag .h) (Config.freeBit s.draws) =
      ⟨res, { n := some res.msb, z := some (res == 0), v := some (Config.freeBit s.draws),
              c := some (s.flag .c || decide (255 < sum)) }⟩ := by
    rw [← carry]
    simp only [daa8, correction, sum, res]
  refine ⟨(s.countDraw.setA _).putFlags _, (rfl : exec .daa s = decimalAdjust s),
    congrArg Alu8.r adjusted, flagsSet_listed ⟨none, some _, some _, some _, some _⟩
      (congrArg (fun out : Alu8 => applyFlags out.fl s.regs.cc) adjusted), ?_, ramKept_of_ram_eq rfl _, rfl, rfl⟩
  intro q hq
  cases q <;> first | rfl | exact absurd (List.mem_singleton.mpr rfl) hq

/-! Multiplication, sign extension, ABX. -/

theorem d_setD (s : State) (v : Word) : (s.setD v).d = v := joinBytes_hiByte_loByte v

theorem toNat_mul8 (a b : Byte) : (mul8 a b).r.toNat = a.toNat * b.toNat := by
  have bound : a.toNat * b.toNat ≤ 255 * 255 := Nat.mul_le_mul (by omega) (by omega)
  simp only [mul8, BitVec.toNat_ofNat]
  omega

/-- Settles O30. -/
theorem multiplyAccumulators : Obligations.MultiplyAccumulators := by
  intro s
  have product := d_setD s (mul8 s.regs.a s.regs.b).r
  refine ⟨(s.setD (mul8 s.regs.a s.regs.b).r).putFlags (mul8 s.regs.a s.regs.b).fl, rfl,
    (congrArg BitVec.toNat product).trans (toNat_mul8 _ _), ?_, ?_, ramKept_of_ram_eq rfl _, rfl, rfl⟩
  · have lists : listed (mul8 s.regs.a s.regs.b).fl =
        [(.z, (s.setD (mul8 s.regs.a s.regs.b).r).d == 0), (.c, (s.setD (mul8 s.regs.a s.regs.b).r).d.getLsbD 7)] := by
      rw [product]
      rfl
    exact lists ▸ flagsSet_listed _ rfl
  · intro q hq
    cases q <;> first | rfl | exact absurd (by decide) hq

/-- The word with the sign of its low byte all through its high byte is the signed byte (40 R215). -/
theorem sex_word (b : Byte) : joinBytes (if b.msb then 0xFF else 0x00) b = b.signExtend 16 := by
  revert b; decide +kernel

theorem signExtend_eq_zero_iff (b : Byte) : (b.signExtend 16 == 0) = (b == 0) := by
  revert b; decide +kernel

/-- Settles O31. -/
theorem signExtendAndAddToX : Obligations.SignExtendAndAddToX := by
  intro s
  refine ⟨?sex, ?abx⟩
  case sex =>
    have word : (s.setA (if s.regs.b.msb then 0xFF else 0x00)).d = s.regs.b.signExtend 16 := sex_word s.regs.b
    refine ⟨_, (rfl : exec .sex s = signExtend s), ?_, ?_, ?_, rfl, ramKept_of_ram_eq rfl _, rfl, rfl⟩
    · exact (congrArg BitVec.toInt word).trans (BitVec.toInt_signExtend_of_le (by decide))
    · have lists : listed (sexFlags s.params.sexV (s.regs.b.signExtend 16)) =
          [(.n, s.regs.b.msb), (.z, s.regs.b == 0)] ++ if s.params.sexV = .cleared then [(.v, false)] else [] := by
        have sign : (s.regs.b.signExtend 16).msb = s.regs.b.msb := by simp [BitVec.msb_signExtend]
        rw [← signExtend_eq_zero_iff s.regs.b, ← sign]
        cases s.params.sexV <;> rfl
      rw [← lists]
      exact flagsSet_listed _ (by rw [putFlags_cc, word]; rfl)
    · intro q hq
      cases q <;> first | rfl | exact absurd (by decide) hq
  case abx =>
    refine ⟨_, (rfl : exec .abx s = addBtoX s), ?_, flagsSet_nil rfl, ?_, ramKept_of_ram_eq rfl _, rfl, rfl⟩
    · show (s.regs.x + s.regs.b.setWidth 16).toNat = _
      simp
    · intro q hq
      cases q <;> first | rfl | exact absurd (List.mem_singleton.mpr rfl) hq


/-! 16-bit arithmetic. -/

/-- An operation on D: the result, the flags its function lists, and the frame. -/
theorem aluD_effect (f : Word → Word → Alu16) (o : Src16) (s : State) :
    let r := s.operand16 o
    let out := f r.2.d r.1
    ∃ t, aluD f o s = .next t ∧ t.d = out.r ∧ FlagsSet s t (listed out.fl) ∧
      OperandFrame s r.2 t (auto16 o) [.a, .b] :=
  have read := operand16_effect s o
  ⟨_, rfl, d_setD (s.operand16 o).2 _, flagsSet_set16_putFlags read .d _ _, frame_set16_putFlags read .d _ _⟩

/-- Settles O32. -/
theorem additionAndSubtractionOnD : Obligations.AdditionAndSubtractionOnD := by
  intro o s r a
  refine ⟨?add, ?sub⟩
  case add =>
    obtain ⟨t, run, value, flags, frame⟩ := aluD_effect add16 o s
    rw [listed_add16] at flags
    exact ⟨t, (exec_addd o s).trans run, value, flags, frame⟩
  case sub =>
    obtain ⟨t, run, value, flags, frame⟩ := aluD_effect sub16 o s
    rw [listed_sub16] at flags
    exact ⟨t, (exec_subd o s).trans run, value, flags, frame⟩

/-- Settles O33. -/
theorem comparisonOfWordRegisters : Obligations.ComparisonOfWordRegisters := by
  intro k o s r a diff res
  have read := operand16_effect s o
  have flags := flagsSet_putFlags read (sub16 a r.1).fl
  rw [listed_sub16] at flags
  exact ⟨_, exec_cmpWord k o s, flags, frame_putFlags read _⟩

/-! Unary operations and tests. -/

theorem listed_unaryAlu (op : UnaryOp) (v : Byte) (c : Bool) :
    listed (unaryAlu op v c).fl = unaryFlags op v c := by
  rw [unaryAlu_fl]
  cases op <;> rfl

/-- Settles O34. -/
theorem unaryOperationsOnMemory : Obligations.UnaryOperationsOnMemory := by
  intro op m s r v res
  have read : OperandEffect s v.2 (autoOf m) (memCycles m) := operandEffect_readByte (ea_effect s m) r.1
  have carry : v.2.flag .c = s.flag .c := flag_of_cc read.cc .c
  have stored : (unaryAlu op v.1 (v.2.flag .c)).r = res := by rw [unaryAlu_r, carry]
  have regs : RegsKept v.2 ((v.2.writeByte r.1 res).putFlags (unaryAlu op v.1 (s.flag .c)).fl) [] :=
    regsKept_putFlags (writeByte_regs _ _ _) _
  have run : exec (unaryMem op m) s = .next ((v.2.writeByte r.1 res).putFlags (unaryAlu op v.1 (s.flag .c)).fl) := by
    rw [exec_unaryMem, ← stored, ← carry]
    rfl
  refine ⟨_, run, ?flags, ?_, regsKept_trans read.registers regs, ramKept_writeByte read.ram r.1 res,
    fun p hp wf => ramRead_writeByte_self v.2 r.1 res p hp (by rw [read.ram]; exact wf), systemKept_putFlags _ _,
    (writeByte_cyc v.2 r.1 res).trans (readByte_cyc r.2 r.1)⟩
  case flags =>
    rw [← listed_unaryAlu]
    exact flagsSet_listed _ (by rw [putFlags_cc, writeByte_regs, read.cc])
  · exact regsKept_trans (regsKept_of_regs_eq (readByte_regs r.2 r.1) []) regs

section Inherent

/-- An inherent operation evaluates no operand. -/
theorem operandEffect_refl (s : State) : OperandEffect s s [] 0 :=
  ⟨fun _ _ => rfl, rfl, rfl, readEffect_refl s, rfl, rfl⟩

variable {s t : State} {l : List RegName}

/-- The frame over no operand, in the form in which the inherent rows state it. -/
theorem inherent_of_frame (h : OperandFrame s s t [] l) :
    RegsKept s t l ∧ RamKept s t [] ∧ SystemKept s t ∧ t.cyc = s.cyc :=
  ⟨h.afterOperand, h.memory, h.system, h.cycles⟩

end Inherent

/-- Settles O35. -/
theorem unaryOperationsOnAccumulators : Obligations.UnaryOperationsOnAccumulators := by
  intro op k s
  have flags := flagsSet_setAcc_putFlags (operandEffect_refl s) k (unaryAlu op (s.acc k) (s.flag .c)).r
    (unaryAlu op (s.acc k) (s.flag .c)).fl
  rw [listed_unaryAlu] at flags
  exact ⟨_, exec_unaryAcc op k s, by rw [acc_putFlags, acc_setAcc, unaryAlu_r], flags,
    inherent_of_frame (frame_setAcc_putFlags (operandEffect_refl s) k _ _)⟩

/-- Settles O36. -/
theorem testsForNegativeOrZero : Obligations.TestsForNegativeOrZero := by
  refine ⟨fun m s => ?memory, fun k s => ?accumulator⟩
  case memory =>
    have read := operand8_effect s (.mem m)
    exact ⟨_, exec_tst m s, flagsSet_putFlags read (moveFlags8 _), frame_putFlags read _⟩
  case accumulator =>
    exact ⟨_, exec_tstAcc k s, flagsSet_putFlags (operandEffect_refl s) (moveFlags8 _),
      inherent_of_frame (frame_putFlags (operandEffect_refl s) _)⟩

/-! Decimal arithmetic. -/

theorem beq_some_true (b : Bool) : (some b == some true) = b := by cases b <;> rfl

/-- The correction of 40 R214 on the sum `16 * v + u` of two BCD bytes, where `u` is the sum of the low digits with the carry
in and `v` that of the high digits: all 380 pairs. -/
theorem bcd_correction :
    ∀ u < 20, ∀ v < 19,
      let r := (16 * v + u) % 256
      let low := if 15 < u ∨ 9 < r % 16 then 0x06 else 0
      let high := if 255 < 16 * v + u ∨ 9 < r / 16 ∨ (8 < r / 16 ∧ 9 < r % 16) then 0x60 else 0
      (r + (low + high)) % 256 = 16 * ((10 * v + u) % 100 / 10) + (10 * v + u) % 10 ∧
        ((255 < 16 * v + u ∨ 255 < r + (low + high)) ↔ 100 ≤ 10 * v + u) := by
  decide +kernel

/-- A sum of bytes by the sums of their digits: of base 16, and as decimal digits. -/
theorem digit_sums (x y k : Nat) :
    16 * (x / 16 + y / 16) + (x % 16 + y % 16 + k) = x + y + k ∧
      10 * (x / 16 + y / 16) + (x % 16 + y % 16 + k) = 10 * (x / 16) + x % 16 + (10 * (y / 16) + y % 16) + k := by
  constructor <;> omega

/-- Settles O29: the sum is that of the two digit sums, for which the correction is checked. -/
theorem decimalAdjustGivesTheDecimalSum : Obligations.DecimalAdjustGivesTheDecimalSum := by
  intro x y cin freeV xl xh yl yh sum n out
  have hcin := cin.toNat_le
  have digits := bcd_correction (x.toNat % 16 + y.toNat % 16 + cin.toNat) (by omega) (x.toNat / 16 + y.toNat / 16)
    (by omega)
  obtain ⟨binary, decimal⟩ := digit_sums x.toNat y.toNat cin.toNat
  rw [binary, decimal] at digits
  have value : sum.r.toNat = (x.toNat + y.toNat + cin.toNat) % 256 := BitVec.toNat_ofNat _ _
  have carry : (sum.fl.c == some true) = decide (255 < x.toNat + y.toNat + cin.toNat) :=
    (beq_some_true _).trans (AluFlags.sum_carry x y cin)
  have half : (sum.fl.h == some true) = decide (15 < x.toNat % 16 + y.toNat % 16 + cin.toNat) := beq_some_true _
  have outR : out.r.toNat =
      (sum.r.toNat + daaCorrection sum.r (sum.fl.c == some true) (sum.fl.h == some true)) % 256 :=
    BitVec.toNat_ofNat _ _
  have outC : out.fl.c = some ((sum.fl.c == some true) || decide (255 < sum.r.toNat +
      daaCorrection sum.r (sum.fl.c == some true) (sum.fl.h == some true))) := by
    have bound := daaCorrection_le sum.r (sum.fl.c == some true) (sum.fl.h == some true)
    rw [← testBit_eight _ (by omega)]
    rfl
  rw [outR, outC, Option.some_inj, Bool.eq_iff_iff, Bool.or_eq_true]
  simpa only [daaCorrection_eq, carry, half, value, decide_eq_true_iff] using digits

/-! Branches after a compare. -/

theorem ofInt_diff_eq_zero_iff (a m : Byte) : (BitVec.ofInt 8 (a.toNat - m.toNat - (0 : Nat)) == 0) = decide (a = m) := by
  have difference : BitVec.ofInt 8 (a.toNat - m.toNat - (0 : Nat)) = a - m := by
    simp [Int.sub_eq_add_neg, BitVec.ofInt_add, BitVec.ofInt_neg, BitVec.sub_eq_add_neg]
  rw [difference, Bool.eq_iff_iff, beq_iff_eq, decide_eq_true_iff]
  exact sub_eq_zero

/-- N and V of a difference disagree exactly when the signed difference is negative (40 R203). -/
theorem sign_xor_overflow (a m : Byte) :
    let res : Byte := BitVec.ofInt 8 (a.toNat - m.toNat - (false.toNat : Nat))
    (res.msb ^^ ((a ^^^ m) &&& (a ^^^ res)).msb) = decide (a.toInt < m.toInt) := by
  intro res
  have ha := AluFlags.toInt_bounds (w := 7) a
  have hm := AluFlags.toInt_bounds (w := 7) m
  have overflow := AluFlags.diff_overflow (w := 7) a m false
  have sign : res.msb = true ↔ _ := AluFlags.ofInt_toNat_diff a m 0 ▸
    AluFlags.msb_ofInt_iff (w := 7) (d := a.toInt - m.toInt - (0 : Nat)) (by omega) (by omega)
  rw [overflow, Bool.eq_iff_iff, Bool.xor_iff_ne, ne_eq, Bool.eq_iff_iff, sign, decide_eq_true_iff, decide_eq_true_iff]
  simp only [Bool.toNat_false]
  omega

/-- Settles O38. -/
theorem branchesAfterACompare : Obligations.BranchesAfterACompare := by
  intro a m cc f
  have carry : ccGet f .c = decide (a.toNat < m.toNat) := by
    have borrow : (a.toNat : Int) - m.toNat - (false.toNat : Nat) < 0 ↔ a.toNat < m.toNat := by
      simp only [Bool.toNat_false]
      omega
    exact (ccGet_applyFlags_written _ cc .c).trans (decide_eq_decide.mpr borrow)
  have zero : ccGet f .z = decide (a = m) :=
    (ccGet_applyFlags_written _ cc .z).trans (ofInt_diff_eq_zero_iff a m)
  have less : (ccGet f .n ^^ ccGet f .v) = decide (a.toInt < m.toInt) := by
    rw [ccGet_applyFlags_written, ccGet_applyFlags_written]
    exact sign_xor_overflow a m
  have equal : a = m ↔ a.toNat = m.toNat := BitVec.toNat_inj.symm
  have equalInt : a = m ↔ a.toInt = m.toInt := BitVec.toInt_inj.symm
  simp only [condHolds, carry, zero, less, ← decide_not, ← Bool.decide_and, ← Bool.decide_or, decide_eq_decide, ne_eq,
    true_and, and_true]
  refine ⟨?hi, ?ls, Nat.not_lt, ?gt, ?le, Int.not_lt⟩
  case hi => rw [equal]; omega
  case ls => rw [equal]; omega
  case gt => rw [equalInt]; omega
  case le => rw [equalInt]; omega

end Sys2Proof.Proofs.Arithmetic
end

section
/-! PROOF. O21, O22, O37, O39, O40, O45: register codes, branches, calls, jumps and the CC masks (30 R174 to R176, 41 R318, R319,
45, 46 R506, R507). TFR and EXG are statements about `writeCode` and `codeValue` alone: writing back what was read changes
nothing, and writes of two defined codes of one width do not meet. -/

namespace Sys2Proof.Proofs.Control

open Sys2Proof Sys2Proof.Machine Sys2Proof.Safety Sys2Proof.Proofs.Operands Sys2Proof.Proofs.Arithmetic

/-! Register codes. -/

/-- Settles O21. -/
theorem transferBetweenRegisters : Obligations.TransferBetweenRegisters := by
  intro src dst s
  show Host.Outcome.next (s.regWrite dst (s.regRead src dst)) = _
  rw [regWrite_eq, regRead_eq]

/-- The registers after an EXG: both values are read before either write. -/
def exchanged (c1 c2 : BitVec 4) (g : Regs) : Regs :=
  writeCode c1 (codeValue g c2 c1) (writeCode c2 (codeValue g c1 c2) g)

theorem exec_exg (c1 c2 : BitVec 4) (s : State) :
    exec (.exg c1 c2) s = .next { s with regs := exchanged c1 c2 s.regs } := by
  show Host.Outcome.next ((s.regWrite c2 (s.regRead c1 c2)).regWrite c1 (s.regRead c2 c1)) = _
  rw [regWrite_eq, regWrite_eq, regRead_eq, regRead_eq]
  rfl

/-- The defined codes of one width: 0 to 5 name words, 8 to 0xB bytes. -/
def SameWidth (c d : BitVec 4) : Prop :=
  (c.toNat ≤ 5 ∧ d.toNat ≤ 5) ∨ (8 ≤ c.toNat ∧ c.toNat ≤ 0xB ∧ 8 ≤ d.toNat ∧ d.toNat ≤ 0xB)

theorem sameWidth_cases {c d : BitVec 4} (h : SameWidth c d) :
    ((c = 0 ∨ c = 1 ∨ c = 2 ∨ c = 3 ∨ c = 4 ∨ c = 5) ∧ (d = 0 ∨ d = 1 ∨ d = 2 ∨ d = 3 ∨ d = 4 ∨ d = 5)) ∨
      ((c = 8 ∨ c = 9 ∨ c = 10 ∨ c = 11) ∧ (d = 8 ∨ d = 9 ∨ d = 10 ∨ d = 11)) := by
  revert c d
  unfold SameWidth
  decide

/-- Only the width of the destination counts. -/
theorem codeValue_congr (g : Regs) (c : BitVec 4) {d d' : BitVec 4} (h : SameWidth d d') :
    codeValue g c d = codeValue g c d' := by
  have width : (8 ≤ d.toNat) = (8 ≤ d'.toNat) := by
    rcases h with h | h <;> exact propext (by omega)
  simp only [codeValue, width]

/-- Writing back what was read at the code's own width changes nothing. -/
theorem writeCode_codeValue_self (g : Regs) (c : BitVec 4) : writeCode c (codeValue g c c) g = g := by
  rcases code_cases c with h | h | h | h | h | h | h | h | h | h | h | h | h | h | h | h <;> subst h <;>
    simp [writeCode, codeValue, loByte_zext8]

theorem writeCode_writeCode (g : Regs) (c : BitVec 4) (v w : Word) :
    writeCode c v (writeCode c w g) = writeCode c v g := by
  simp only [writeCode, Regs.mk.injEq]
  refine ⟨?_, ?_, ?_, ?_, ?_, ?_, ?_, ?_, ?_⟩ <;> split <;> first | rfl | (split <;> rfl)

theorem writeCode_comm (g : Regs) {c d : BitVec 4} (hne : c ≠ d) (h : SameWidth c d) (v w : Word) :
    writeCode c v (writeCode d w g) = writeCode d w (writeCode c v g) := by
  rcases sameWidth_cases h with ⟨hc, hd⟩ | ⟨hc, hd⟩
  · rcases hc with hc | hc | hc | hc | hc | hc <;> rcases hd with hd | hd | hd | hd | hd | hd <;> subst hc hd <;>
      first | rfl | exact absurd rfl hne
  · rcases hc with hc | hc | hc | hc <;> rcases hd with hd | hd | hd | hd <;> subst hc hd <;>
      first | rfl | exact absurd rfl hne

/-- A code reads back what was read at its width and written to it. -/
theorem codeValue_writeCode_self (g g' : Regs) {c d : BitVec 4} (h : SameWidth c d) :
    codeValue (writeCode c (codeValue g d c) g') c c = codeValue g d c := by
  rcases sameWidth_cases h with ⟨hc, hd⟩ | ⟨hc, hd⟩
  · rcases hc with hc | hc | hc | hc | hc | hc <;> subst hc <;> first | rfl | exact joinBytes_hiByte_loByte _
  · rcases hc with hc | hc | hc | hc <;> rcases hd with hd | hd | hd | hd <;> subst hc hd <;>
      exact congrArg zext8 (loByte_zext8 _)

theorem sameWidth_symm {c d : BitVec 4} (h : SameWidth c d) : SameWidth d c := by
  unfold SameWidth at *
  omega

/-- Exchanging twice restores every register. -/
theorem exchanged_exchanged (g : Regs) {c d : BitVec 4} (h : SameWidth c d) :
    exchanged c d (exchanged c d g) = g := by
  have h' := sameWidth_symm h
  by_cases hne : c = d
  · subst hne
    simp only [exchanged, writeCode_codeValue_self]
  have comm (w v : Word) (g : Regs) : writeCode c v (writeCode d w g) = writeCode d w (writeCode c v g) :=
    writeCode_comm g hne h v w
  have readC : codeValue (exchanged c d g) c d = codeValue g d c := by
    rw [codeValue_congr _ c h']
    exact codeValue_writeCode_self g _ h
  have readD : codeValue (exchanged c d g) d c = codeValue g c d := by
    rw [codeValue_congr _ d h, exchanged, comm]
    exact codeValue_writeCode_self g _ h'
  have ownC : codeValue g c d = codeValue g c c := codeValue_congr g c h'
  have ownD : codeValue g d c = codeValue g d d := codeValue_congr g d h
  calc exchanged c d (exchanged c d g)
      = writeCode c (codeValue g c d) (writeCode d (codeValue g d c) (exchanged c d g)) := by
        rw [exchanged, readC, readD]
    _ = writeCode c (codeValue g c d) g := by
        rw [exchanged, ← comm, writeCode_writeCode, writeCode_writeCode, ownD, writeCode_codeValue_self]
    _ = g := by rw [ownC, writeCode_codeValue_self]

/-- Settles O22. -/
theorem exchangeOfRegisters : Obligations.ExchangeOfRegisters := by
  refine ⟨exec_exg, fun c1 c2 s t u width first second => ?_⟩
  rw [exec_exg, Host.Outcome.next.injEq] at first second
  subst first second
  dsimp only
  rw [exchanged_exchanged s.regs width]

/-! Branches. -/

theorem add_sext8 (x : Word) (r : Byte) : x + sext8 r = BitVec.ofInt 16 (x.toNat + r.toInt) :=
  (ofInt_toNat_add_toInt x r).symm

theorem add_offset (x r : Word) : x + r = BitVec.ofInt 16 (x.toNat + r.toInt) := (ofInt_toNat_add_toInt16 x r).symm

/-- Settles O37. -/
theorem conditionalBranches : Obligations.ConditionalBranches := by
  intro k s cond
  have holds : condHolds k s.regs.cc = true ↔ cond := condHolds_iff k s
  refine ⟨fun r => And.intro (fun h => ?_) (fun h => ?_), fun r => And.intro (fun h => ?_) (fun h => ?_)⟩
  · rw [exec_shortBranch, branch, if_pos (holds.mpr h), add_sext8]
    rfl
  · rw [exec_shortBranch, branch, if_neg (holds.not.mpr h)]
  · simp only [exec_longBranchInstr, branch, longBranch, if_pos (holds.mpr h), add_offset]
    split <;> rfl
  · simp only [exec_longBranchInstr, branch, longBranch, if_neg (holds.not.mpr h), ite_self]

/-! Calls and jumps. -/

theorem readReg_setPC_of_ne (s : State) (v : Word) (q : RegName) (hq : q ∉ [RegName.pc]) :
    readReg (s.setPC v).regs q = readReg s.regs q := by
  cases q <;> first | rfl | exact absurd (List.mem_singleton.mpr rfl) hq

/-- The state after bytes were pushed on S and PC written. -/
theorem pushed_setPC (s : State) (l : List Byte) (target : Word) :
    let t := (pushAll .s s l).setPC target
    t.regs = { s.regs with s := s.regs.s - BitVec.ofNat 16 l.length, pc := target } ∧ t.ram = (pushAll .s s l).ram ∧
      SystemKept (pushAll .s s l) t ∧ t.cyc = s.cyc := by
  refine ⟨?_, rfl, rfl, (pushAll_kept .s s l).1⟩
  show ({ (pushAll .s s l).regs with pc := target } : Regs) = _
  rw [pushAll_regs]
  rfl

theorem call_eq (target : Word) (s : State) :
    call target s = .next ((pushAll .s s [loByte s.regs.pc, hiByte s.regs.pc]).setPC target) := rfl

/-- A call from the state in which its target is known. -/
theorem call_effect {s r : State} {auto : List RegName} {n : Nat} (h : OperandEffect s r auto n) (target : Word) :
    ∃ t, call target r = .next t ∧ CallEffect s r t target auto := by
  obtain ⟨regs, ram, system, cyc⟩ := pushed_setPC r [loByte r.regs.pc, hiByte r.regs.pc] target
  refine ⟨_, call_eq target r, ?_⟩
  generalize (pushAll .s r [loByte r.regs.pc, hiByte r.regs.pc]).setPC target = t at regs ram system cyc ⊢
  have kept : RegsKept r t [.s, .pc] := by
    intro q hq
    rw [regs]
    cases q <;> first | rfl | exact absurd (by decide) hq
  refine ⟨by rw [regs], by rw [regs]; rfl, kept, fun q hq => ?registers, flagsSet_nil (by rw [regs, ← h.cc]),
    fun p hp => ?memory, ram, system, cyc⟩
  case registers =>
    rw [List.mem_append, not_or] at hq
    exact (kept q hq.1).trans (h.registers q hq.2)
  case memory => rw [ram, pushAll_ramKept .s r _ p hp, h.ram]

/-- Settles O39. -/
theorem callsPushTheReturnAddress : Obligations.CallsPushTheReturnAddress := by
  refine fun s => ⟨fun r => ?bsr, fun r => ?lbsr, fun m => ?jsr⟩
  case bsr =>
    rw [← add_sext8]
    exact call_effect (operandEffect_refl s) _
  case lbsr =>
    rw [← add_offset]
    exact call_effect (operandEffect_refl s) _
  case jsr =>
    have run : exec (Instr.jsr m) s = call (s.ea m).1 (s.ea m).2 := by cases m <;> rfl
    rw [run]
    exact call_effect (ea_effect s m) _

/-- RTS, from the two bytes on the stack. -/
theorem exec_rts (s : State) :
    exec .rts s = .next (pulled .s s 2 { s.regs with pc := wordAt (pullSeq .s s 2).1 0 }) := by
  have pull := pullPC_pulled .s s 0 s.regs
  rw [pulled_zero] at pull
  exact congrArg Host.Outcome.next pull

/-- A pull that only writes registers leaves the rest as its reads do. -/
theorem pulled_rest (k : Stack) (s : State) (n : Nat) (g : Regs) :
    RamKept s (pulled k s n g) [] ∧ SystemKept (pullSeq k s n).2 (pulled k s n g) ∧ ReadEffect s (pulled k s n g) ∧
      (pulled k s n g).cyc = s.cyc := by
  obtain ⟨_, ram, cyc, reads, _⟩ := pullSeq_effect k s n
  exact ⟨ramKept_of_ram_eq (by exact ram) [], rfl, readEffect_trans reads (readEffect_of_systemKept rfl), cyc⟩

/-- Settles O40. -/
theorem jumpsReturnsAndNoOperation : Obligations.JumpsReturnsAndNoOperation := by
  refine fun s => ⟨fun m => ?jmp, ?rts, rfl, rfl⟩
  case jmp =>
    have addr := ea_effect s m
    have run : exec (Instr.jmp m) s = .next ((s.ea m).2.setPC (s.ea m).1) := by cases m <;> rfl
    exact ⟨_, run, rfl, flagsSet_nil addr.cc,
      operandFrame_setRegs addr _ rfl fun q hq => readReg_setPC_of_ne _ _ q hq⟩
  case rts => exact ⟨_, exec_rts s, rfl, pulled_rest .s s 2 _⟩

/-! The CC masks. -/

/-- Settles O45. -/
theorem andccAndOrcc : Obligations.AndccAndOrcc := by
  have masks (s : State) (v : Byte) :
      RegsKept s (s.setCC v) [] ∧ RamKept s (s.setCC v) [] ∧ SystemKept s (s.setCC v) ∧ (s.setCC v).cyc = s.cyc :=
    ⟨fun q _ => by cases q <;> rfl, ramKept_of_ram_eq rfl [], rfl, rfl⟩
  exact fun m s => ⟨⟨s.setCC (s.regs.cc &&& m), rfl, fun k => BitVec.getLsbD_and, masks s _⟩,
    ⟨s.setCC (s.regs.cc ||| m), rfl, fun k => BitVec.getLsbD_or, masks s _⟩⟩

end Sys2Proof.Proofs.Control
end

section
/-! PROOF. O41 to O44 and O46 to O49: the stack protocol, calls and exceptions that come back (46 R500 to R512). What is pulled
after a push of plain RAM is what was pushed, in the opposite order: each byte's address is translated as before the push, and
the later pushes store elsewhere. -/

namespace Sys2Proof.Proofs.Stacks

open Sys2Proof Sys2Proof.Machine Sys2Proof.Safety Sys2Proof.Proofs.Operands Sys2Proof.Proofs.Control

/-! Translation does not see what pushes and pulls change. -/

theorem translate_afterReads (v q f : Bool) (n : Nat) (s : State) (a : Word) :
    (afterReads v q f n s).translate a = s.translate a := by
  cases v <;> cases q <;> cases f <;> rfl

theorem translate_of_systemKept {s t : State} (h : SystemKept s t) (a : Word) : t.translate a = s.translate a := by
  rw [h]
  rfl

theorem translate_of_readEffect {s t : State} (h : ReadEffect s t) (a : Word) : t.translate a = s.translate a := by
  obtain ⟨v, q, f, n, h⟩ := h
  rw [translate_of_systemKept h, translate_afterReads]

/-- A byte of plain RAM is read from its translation. -/
theorem readByte_of_ram (s : State) (a : Word) (h : a.toNat < 0xFF00) (hr : (s.translate a).2 = none) :
    (s.readByte a).1 = ramRead s.ram (s.translate a).1 := by
  unfold State.readByte
  rw [if_neg (by omega), if_neg (by omega), hr]

/-- Below the I/O window a push changes registers and RAM only. -/
theorem push8_systemKept (s : State) (k : Stack) (v : Byte) (h : (s.sp k - 1).toNat < 0xFF00) :
    SystemKept s (s.push8 k v) := by
  rw [push8_eq, writeByte_plain s _ v h]
  rfl

/-! Plain RAM below a pointer. -/

/-- The `j`-th address from the bottom of the `n` bytes below a pointer. -/
def below (s : State) (k : Stack) (n j : Nat) : Word := s.sp k - BitVec.ofNat 16 n + BitVec.ofNat 16 j

/-- The highest of the bytes below a pointer is the one just under it. -/
theorem below_top (s : State) (k : Stack) (n : Nat) : below s k (n + 1) n = s.sp k - 1 := by
  unfold below
  rw [BitVec.ofNat_add]
  show s.sp k - (BitVec.ofNat 16 n + 1#16) + BitVec.ofNat 16 n = s.sp k - 1#16
  rw [add_comm (BitVec.ofNat 16 n), ← sub_sub, sub_add_cancel]

/-- What the highest of `n + 1` bytes of plain RAM is. -/
theorem plainRam_top {s : State} {k : Stack} {n : Nat}
    (h : PlainRam s (s.sp k - BitVec.ofNat 16 (n + 1)) (n + 1)) :
    (s.sp k - 1).toNat < 0xFF00 ∧ (s.translate (s.sp k - 1)).2 = none := by
  rw [← below_top s k n]
  exact h.1 n (Nat.lt_succ_self n)

theorem below_push8 (s : State) (k : Stack) (v : Byte) (n j : Nat) : below (s.push8 k v) k n j = below s k (n + 1) j := by
  unfold below
  rw [sp_withSp _ k _ (push8_regs s k v), BitVec.ofNat_add, BitVec.sub_sub, BitVec.add_comm 1]
  rfl

theorem plainRam_push8 {s : State} {k : Stack} (v : Byte) {n : Nat}
    (h : PlainRam s (s.sp k - BitVec.ofNat 16 (n + 1)) (n + 1)) :
    PlainRam (s.push8 k v) ((s.push8 k v).sp k - BitVec.ofNat 16 n) n := by
  have kept := push8_systemKept s k v (plainRam_top h).1
  obtain ⟨ram, apart⟩ := h
  have addr (j : Nat) : (s.push8 k v).sp k - BitVec.ofNat 16 n + BitVec.ofNat 16 j =
      s.sp k - BitVec.ofNat 16 (n + 1) + BitVec.ofNat 16 j := below_push8 s k v n j
  refine ⟨fun j hj => ?_, fun i j hi hj hne => ?_⟩
  · rw [addr, translate_of_systemKept kept]
    exact ram j (by omega)
  · rw [addr, addr, translate_of_systemKept kept, translate_of_systemKept kept]
    exact apart i j (by omega) (by omega) hne

theorem storeAddr_eq_translate {s : State} {a : Word} {p : Nat} (h : s.storeAddr a = some p) : p = (s.translate a).1 := by
  unfold State.storeAddr at h
  split at h
  · cases h
  · split at h
    · exact (Option.some_inj.mp h).symm
    · cases h

/-- Pushes into plain RAM store to the translations of the bytes below the pointer. -/
theorem mem_pushTargets (k : Stack) (s : State) (l : List Byte)
    (h : PlainRam s (s.sp k - BitVec.ofNat 16 l.length) l.length) {p : Nat} (hp : p ∈ pushTargets k s l) :
    ∃ j < l.length, p = (s.translate (below s k l.length j)).1 := by
  induction l generalizing s with
  | nil => exact absurd hp List.not_mem_nil
  | cons v rest ih =>
    rw [List.length_cons] at h ⊢
    have kept := push8_systemKept s k v (plainRam_top h).1
    rw [pushTargets, List.mem_append, Option.mem_toList, setSp_eq] at hp
    rcases hp with first | later
    · refine ⟨rest.length, Nat.lt_succ_self _, ?_⟩
      rw [below_top]
      exact storeAddr_eq_translate (s := s) first
    · obtain ⟨j, hj, e⟩ := ih (s.push8 k v) (plainRam_push8 v h) later
      refine ⟨j, Nat.lt_succ_of_lt hj, ?_⟩
      rw [e, below_push8, translate_of_systemKept kept]

/-- The first byte pushed stays where it was stored. -/
theorem ramRead_pushAll_first {k : Stack} {s : State} {v : Byte} {rest : List Byte} (wf : s.ram.wf = true)
    (h : PlainRam s (s.sp k - BitVec.ofNat 16 (rest.length + 1)) (rest.length + 1)) :
    ramRead (pushAll k s (v :: rest)).ram (s.translate (s.sp k - 1)).1 = v := by
  obtain ⟨top, noRom⟩ := plainRam_top h
  have kept := push8_systemKept s k v top
  have elsewhere : (s.translate (s.sp k - 1)).1 ∉ pushTargets k (s.push8 k v) rest := by
    intro hp
    obtain ⟨j, hj, e⟩ := mem_pushTargets k (s.push8 k v) rest (plainRam_push8 v h) hp
    rw [below_push8, translate_of_systemKept kept, ← below_top s k rest.length] at e
    exact h.2 rest.length j (by omega) (by omega) (by omega) e
  calc ramRead (pushAll k (s.push8 k v) rest).ram (s.translate (s.sp k - 1)).1
      = ramRead (s.push8 k v).ram (s.translate (s.sp k - 1)).1 := pushAll_ramKept k _ rest _ elsewhere
    _ = v := by
      rw [push8_eq]
      exact ramRead_writeByte_self s _ v _ (storeAddr_of_ram s _ top noRom) wf

/-- Pushing into plain RAM changes registers and RAM only. -/
theorem pushAll_systemKept (k : Stack) (s : State) (l : List Byte)
    (h : PlainRam s (s.sp k - BitVec.ofNat 16 l.length) l.length) : SystemKept s (pushAll k s l) := by
  induction l generalizing s with
  | nil => exact systemKept_refl s
  | cons v rest ih =>
    rw [List.length_cons] at h
    exact systemKept_trans (push8_systemKept s k v (plainRam_top h).1)
      (ih (s.push8 k v) (plainRam_push8 v h))

theorem pullSeq_one (k : Stack) (s : State) : (pullSeq k s 1).1 = [(s.readByte (s.sp k)).1] := rfl

/-- What is pulled after a push into plain RAM is what was pushed, the last byte first; other registers and the cycle total
may have changed between. -/
theorem pullSeq_pushAll (k : Stack) (s t : State) (l : List Byte) (wf : s.ram.wf = true)
    (h : PlainRam s (s.sp k - BitVec.ofNat 16 l.length) l.length) (system : SystemKept (pushAll k s l) t)
    (ram : t.ram = (pushAll k s l).ram) (pointer : t.sp k = (pushAll k s l).sp k) :
    (pullSeq k t l.length).1 = l.reverse := by
  induction l generalizing s with
  | nil => rfl
  | cons v rest ih =>
    have whole := systemKept_trans (pushAll_systemKept k s (v :: rest) h) system
    rw [List.length_cons] at h
    obtain ⟨top, noRom⟩ := plainRam_top h
    have wf' : (s.push8 k v).ram.wf = true := by
      rw [push8_eq]
      exact wf_writeByte s _ v wf
    obtain ⟨regs, pulledRam, _, reads, _⟩ := pullSeq_effect k t rest.length
    have under : (pullSeq k t rest.length).2.sp k = s.sp k - 1 := by
      rw [sp_withSp _ k _ regs, pointer, sp_withSp _ k _ (pushAll_regs k s (v :: rest))]
      exact below_top s k rest.length
    have translated : (pullSeq k t rest.length).2.translate (s.sp k - 1) = s.translate (s.sp k - 1) := by
      rw [translate_of_readEffect reads, translate_of_systemKept whole]
    have last : ((pullSeq k t rest.length).2.readByte (s.sp k - 1)).1 = v := by
      rw [readByte_of_ram _ _ top (by rw [translated]; exact noRom), translated, pulledRam, ram]
      exact ramRead_pushAll_first wf h
    rw [List.length_cons, pullSeq_add, List.reverse_cons, pullSeq_one, under, last,
      ih (s.push8 k v) wf' (plainRam_push8 v h) system ram pointer]

/-! Push and pull of registers (46 R500 to R505). -/

theorem sp_addCyc (s : State) (n : Nat) (k : Stack) : (s.addCyc n).sp k = s.sp k := sp_of_regs k rfl

theorem systemKept_addCyc (s : State) (n : Nat) : SystemKept s (s.addCyc n) := rfl

/-- Settles O42. -/
theorem pushesOfRegisters : Obligations.PushesOfRegisters := by
  intro k mask s bytes
  have run : exec (pushInstr k mask) s = .next ((pushAll k s bytes).addCyc (stackBytes mask)) := by
    rw [exec_pushInstr, pushMask, pushRegs_eq]
  obtain ⟨pointer, registers, memory, _⟩ := pushAll_effect k s bytes
  have cc : (pushAll k s bytes).regs.cc = s.regs.cc := by
    rw [pushAll_regs]
    cases k <;> rfl
  have length : bytes.length = stackBytes mask := stackImage_length k mask s.regs
  have cyc := (pushAll_kept k s bytes).1
  rw [← length] at run
  exact ⟨_, run, ⟨(sp_addCyc _ _ k).trans pointer, registers, memory, systemKept_addCyc _ _⟩, flagsSet_nil cc,
    State.addCyc_ram _ _, length, congrArg (· + bytes.length) cyc⟩

/-- A pull of registers: those of the mask, and the end of the reads. -/
theorem exec_pullInstr_pulled (k : Stack) (mask : Byte) (s : State) :
    exec (pullInstr k mask) s =
      .next (State.addCyc { (pullSeq k s (stackBytes mask)).2 with
        regs := pulledRegs k mask (pullSeq k s (stackBytes mask)).1 s.regs } (stackBytes mask)) := by
  rw [exec_pullInstr, pullMask, pullRegs_eq]

/-- Settles O43. -/
theorem pullsOfRegisters : Obligations.PullsOfRegisters := by
  intro k mask s r
  obtain ⟨_, ram, cyc, reads, _⟩ := pullSeq_effect k s (stackBytes mask)
  exact ⟨_, exec_pullInstr_pulled k mask s, rfl, ramKept_of_ram_eq (by exact ram) [], rfl,
    readEffect_trans reads (readEffect_of_systemKept rfl), congrArg (· + stackBytes mask) cyc⟩

/-- The bytes of the register of bit `i`, as a pull reads them. -/
def pulledBlock (k : Stack) (mask : Byte) (g : Regs) (i : Nat) : List Byte :=
  if mask.getLsbD i then
    match i with
    | 0 => [g.cc]
    | 1 => [g.a]
    | 2 => [g.b]
    | 3 => [g.dp]
    | 4 => [hiByte g.x, loByte g.x]
    | 5 => [hiByte g.y, loByte g.y]
    | 6 => [hiByte (otherSp k g), loByte (otherSp k g)]
    | 7 => [hiByte g.pc, loByte g.pc]
    | _ => []
  else []

/-- The bytes of the registers of the bits below `n`, as a pull reads them. -/
def pulledBlocks (k : Stack) (mask : Byte) (g : Regs) : Nat → List Byte
  | 0 => []
  | n + 1 => pulledBlocks k mask g n ++ pulledBlock k mask g n

theorem reverse_stackImage (k : Stack) (mask : Byte) (g : Regs) :
    (stackImage k mask g).reverse = pulledBlocks k mask g 8 := by
  have reverse_ite (b : Bool) (l : List Byte) :
      (if b = true then l else []).reverse = if b = true then l.reverse else [] := by cases b <;> rfl
  simp only [stackImage, List.reverse_append, reverse_ite, pulledBlocks, pulledBlock, List.append_assoc]
  cases k <;> rfl

theorem pulledBlocks_prefix (k : Stack) (mask : Byte) (g : Regs) {m n : Nat} (h : m ≤ n) :
    ∃ post, pulledBlocks k mask g n = pulledBlocks k mask g m ++ post := by
  induction n, h using Nat.le_induction with
  | base => exact ⟨[], (List.append_nil _).symm⟩
  | succ n _ ih =>
    obtain ⟨post, e⟩ := ih
    exact ⟨post ++ pulledBlock k mask g n, by rw [pulledBlocks, e, List.append_assoc]⟩

theorem length_pulledBlock (k : Stack) (mask : Byte) (g : Regs) (i : Nat) (h : i < 8) :
    (pulledBlock k mask g i).length = (if i < 4 then 1 else 2) * (mask.getLsbD i).toNat := by
  unfold pulledBlock
  cases mask.getLsbD i
  · rfl
  · rcases i with _ | _ | _ | _ | _ | _ | _ | _ | i <;> first | rfl | omega

theorem length_pulledBlocks (k : Stack) (mask : Byte) (g : Regs) (i : Nat) (h : i < 8) :
    (pulledBlocks k mask g i).length = pullOffset mask i := by
  obtain ⟨o0, o1, o2, o3, o4, o5, o6, o7, _⟩ := pullOffset_eq mask
  induction i with
  | zero => exact o0.symm
  | succ i ih =>
    rw [pulledBlocks, List.length_append, ih (by omega), length_pulledBlock k mask g i (by omega)]
    rcases i with _ | _ | _ | _ | _ | _ | _ | i
    · exact o1.symm
    · exact o2.symm
    · exact o3.symm
    · exact o4.symm
    · exact o5.symm
    · exact o6.symm
    · exact o7.symm
    · omega

/-- The register of a bit stands in the image at the position of the bit. -/
theorem stackImage_at (k : Stack) (mask : Byte) (g : Regs) {i : Nat} (h : i < 8) :
    ∃ pre post,
      (stackImage k mask g).reverse = pre ++ pulledBlock k mask g i ++ post ∧ pre.length = pullOffset mask i := by
  obtain ⟨post, e⟩ := pulledBlocks_prefix k mask g (show i + 1 ≤ 8 from h)
  exact ⟨pulledBlocks k mask g i, post, by rw [reverse_stackImage, e, pulledBlocks], length_pulledBlocks k mask g i h⟩

theorem byteAt_stackImage (k : Stack) (mask : Byte) (g : Regs) {i : Nat} (h : i < 8) {v : Byte}
    (hb : pulledBlock k mask g i = [v]) : byteAt (stackImage k mask g).reverse (pullOffset mask i) = v := by
  obtain ⟨pre, post, e, length⟩ := stackImage_at k mask g h
  rw [e, hb, ← length]
  simp [byteAt]

theorem wordAt_stackImage (k : Stack) (mask : Byte) (g : Regs) {i : Nat} (h : i < 8) {w : Word}
    (hb : pulledBlock k mask g i = [hiByte w, loByte w]) :
    wordAt (stackImage k mask g).reverse (pullOffset mask i) = w := by
  obtain ⟨pre, post, e, length⟩ := stackImage_at k mask g h
  rw [e, hb, ← length]
  simp [wordAt, byteAt]

/-- The registers pulled from the image of a mask are those that were pushed. -/
theorem pulledRegs_stackImage (k : Stack) (mask : Byte) (g : Regs) (v : Word) :
    pulledRegs k mask (stackImage k mask g).reverse (withSp k g (v - BitVec.ofNat 16 (stackBytes mask))) =
      withSp k g v := by
  have sel (i : Nat) (hi : i < 8) (old : Byte) (hb : mask.getLsbD i = true → pulledBlock k mask g i = [old]) :
      (if mask.getLsbD i then byteAt (stackImage k mask g).reverse (pullOffset mask i) else old) = old := by
    split
    · exact byteAt_stackImage k mask g hi (hb ‹_›)
    · rfl
  have selw (i : Nat) (hi : i < 8) (old : Word)
      (hb : mask.getLsbD i = true → pulledBlock k mask g i = [hiByte old, loByte old]) :
      (if mask.getLsbD i then wordAt (stackImage k mask g).reverse (pullOffset mask i) else old) = old := by
    split
    · exact wordAt_stackImage k mask g hi (hb ‹_›)
    · rfl
  have cc := sel 0 (by decide) g.cc fun h => if_pos h
  have a := sel 1 (by decide) g.a fun h => if_pos h
  have b := sel 2 (by decide) g.b fun h => if_pos h
  have dp := sel 3 (by decide) g.dp fun h => if_pos h
  have x := selw 4 (by decide) g.x fun h => if_pos h
  have y := selw 5 (by decide) g.y fun h => if_pos h
  have other := selw 6 (by decide) (otherSp k g) fun h => if_pos h
  have pc := selw 7 (by decide) g.pc fun h => if_pos h
  cases k <;> simp only [otherSp] at other
  case s => simp only [pulledRegs, withSp, cc, a, b, dp, x, y, other, pc, if_true, sub_add_cancel]
  case u => simp only [pulledRegs, withSp, cc, a, b, dp, x, y, other, pc, reduceCtorEq, if_false, sub_add_cancel]

theorem withSp_self (k : Stack) (s : State) : withSp k s.regs (s.sp k) = s.regs := by cases k <;> rfl

/-- Settles O44. -/
theorem pushThenPullRestores : Obligations.PushThenPullRestores := by
  intro k mask s t u wf plain push pull
  let image := stackImage k mask s.regs
  have length : image.length = stackBytes mask := stackImage_length k mask s.regs
  rw [exec_pushInstr, pushMask, pushRegs_eq, Host.Outcome.next.injEq] at push
  rw [exec_pullInstr_pulled, Host.Outcome.next.injEq] at pull
  subst push pull
  let t := (pushAll k s image).addCyc (stackBytes mask)
  have bytes : (pullSeq k t (stackBytes mask)).1 = image.reverse := by
    rw [← length]
    exact pullSeq_pushAll k s t image wf (by rwa [length]) rfl rfl (by cases k <;> rfl)
  have regs : t.regs = withSp k s.regs (s.sp k - BitVec.ofNat 16 (stackBytes mask)) := by
    rw [← length]
    exact pushAll_regs k s image
  show pulledRegs k mask (pullSeq k t (stackBytes mask)).1 t.regs = s.regs
  rw [bytes, regs, pulledRegs_stackImage, withSp_self]

/-- Settles O41. -/
theorem callThenReturnComesBack : Obligations.CallThenReturnComesBack := by
  intro s t u r wf plain run back
  let image := [loByte s.regs.pc, hiByte s.regs.pc]
  obtain ⟨regs, ram, system, _⟩ := pushed_setPC s image (s.regs.pc + sext8 r)
  have called : (pushAll .s s image).setPC (s.regs.pc + sext8 r) = t := Host.Outcome.next.inj run
  rw [called] at regs ram system
  have pointer : t.sp .s = (pushAll .s s image).sp .s := by
    rw [State.sp, State.sp, regs, pushAll_regs]
    rfl
  have bytes : (pullSeq .s t 2).1 = image.reverse := pullSeq_pushAll .s s t image wf plain system ram pointer
  rw [exec_rts, bytes, Host.Outcome.next.injEq] at back
  rw [← back]
  show { t.regs with pc := joinBytes (hiByte s.regs.pc) (loByte s.regs.pc), s := t.regs.s + 2 } = s.regs
  rw [regs, joinBytes_hiByte_loByte]
  exact congrArg (fun v => { s.regs with s := v }) (sub_add_cancel s.regs.s 2)

/-! Software interrupts, RTI and CWAI (46 R508 to R512). -/

/-- The exception that a software interrupt takes: the whole register set with E set. -/
structure SoftwareEntry (i : Instr) (fl : List (Flag × Bool)) (vectorOffset : Nat) (e : ExcEntry) : Prop where
  run : ∀ s, exec i s = .next (s.takeException e)
  setsE : e.eFlag = true
  all : e.mask = 0xFF
  low : 0xFFE0 ≤ e.vector.toNat
  high : e.vector.toNat < 0xFFFF
  offset : e.vector.toNat - 0x8000 = vectorOffset
  flags : ∀ p, p ∈ entryFlags e ↔ p ∈ fl

theorem softwareEntry_of_mem {e : Instr × List (Flag × Bool) × Nat} (h : e ∈ softwareInterrupts) :
    ∃ entry, SoftwareEntry e.1 e.2.1 e.2.2 entry := by
  simp only [softwareInterrupts, List.mem_cons, List.not_mem_nil, or_false] at h
  rcases h with rfl | rfl | rfl
  · refine ⟨swiEntry, fun _ => rfl, rfl, rfl, by decide, by decide, rfl, ?_⟩
    simp [entryFlags, swiEntry]
    tauto
  · exact ⟨swi2Entry, fun _ => rfl, rfl, rfl, by decide, by decide, rfl, fun _ => Iff.rfl⟩
  · exact ⟨swi3Entry, fun _ => rfl, rfl, rfl, by decide, by decide, rfl, fun _ => Iff.rfl⟩

theorem systemKept_of_eq {s t : State} {g : Regs} (h : t = { s with regs := g }) : SystemKept s t := by
  rw [h]
  rfl

/-- What taking an exception leaves. -/
theorem takeException_effect (s : State) (e : ExcEntry) (low : 0xFFE0 ≤ e.vector.toNat) (high : e.vector.toNat < 0xFFFF) :
    let p := pushAll .s s (frameBytes s e.eFlag e.mask)
    EntryEffect s (s.takeException e) e.eFlag e.mask (entryFlags e) (e.vector.toNat - 0x8000) ∧
      (s.takeException e).ram = p.ram ∧ SystemKept p (s.takeException e) ∧ (s.takeException e).cyc = s.cyc := by
  intro p
  have pushed := takeException_system s e low high
  have ram : (s.takeException e).ram = p.ram := by rw [pushed]
  have cyc : (s.takeException e).cyc = s.cyc := by
    rw [pushed]
    exact (pushAll_kept .s s _).1
  exact ⟨takeException_entry s _ e low high rfl ram, ram, systemKept_of_eq pushed, cyc⟩

/-- Settles O46. -/
theorem softwareInterruptsStackAndVector : Obligations.SoftwareInterruptsStackAndVector := by
  intro e he s bytes
  obtain ⟨entry, run, setsE, all, low, high, offset, flags⟩ := softwareEntry_of_mem he
  obtain ⟨⟨pc, pointer, registers, set, memory⟩, ram, system, cyc⟩ := takeException_effect s entry low high
  rw [offset] at pc
  rw [setsE, all] at memory ram system
  rw [all] at pointer
  exact ⟨_, run s, ⟨pc, pointer, registers, flagsSet_congr set flags, memory⟩, ram, system, cyc⟩

/-- The pointer after a pull does not depend on the one put in the registers. -/
theorem pulled_withSp (k : Stack) (s : State) (n : Nat) (g : Regs) (v : Word) :
    pulled k s n (withSp k g v) = pulled k s n g := by
  cases k <;> rfl

theorem addCyc_zero (s : State) : s.addCyc 0 = s := rfl

/-- The registers after RTI, from the bytes pulled: all of them where the pulled E is set, else CC and PC. -/
theorem returnFromException_full (s : State) (h : ((s.readByte s.regs.s).1).getLsbD 7 = true) :
    let b := (pullSeq .s s 12).1
    s.returnFromException = (pulled .s s 12
      { cc := byteAt b 0, a := byteAt b 1, b := byteAt b 2, dp := byteAt b 3, x := wordAt b 4, y := wordAt b 6
        u := wordAt b 8, pc := wordAt b 10, s := s.regs.s + 12 }).addCyc 9 := by
  rw [returnFromException_eq, if_pos h, ← byteAt_pullSeq .s s 0 12 (by decide)]
  rfl

theorem returnFromException_short (s : State) (h : ((s.readByte s.regs.s).1).getLsbD 7 = false) :
    let b := (pullSeq .s s 3).1
    s.returnFromException =
      (pulled .s s 3 { s.regs with cc := byteAt b 0, pc := wordAt b 1, s := s.regs.s + 3 }).addCyc 0 := by
  rw [returnFromException_eq, if_neg (by rw [h]; decide), ← byteAt_pullSeq .s s 0 3 (by decide)]
  dsimp only
  rw [addCyc_zero]
  exact (pulled_withSp .s s 3 _ _).symm

/-- RTI as a pull: the pointer past the bytes, and the rest as the reads leave it. -/
theorem exec_rti_effect {s : State} {n extra : Nat} {g : Regs}
    (h : s.returnFromException = (pulled .s s n g).addCyc extra) :
    ∃ t, exec .rti s = .next t ∧ t.regs = { g with s := s.regs.s + BitVec.ofNat 16 n } ∧ RamKept s t [] ∧
      SystemKept (pullSeq .s s n).2 t ∧ ReadEffect s t ∧ t.cyc = s.cyc + extra := by
  obtain ⟨ram, system, reads, cyc⟩ := pulled_rest .s s n g
  exact ⟨_, congrArg Host.Outcome.next h, rfl, ram, systemKept_trans system rfl,
    readEffect_trans reads (readEffect_of_systemKept rfl), congrArg (· + extra) cyc⟩

/-- Settles O47. -/
theorem returnFromInterruptByPulledE : Obligations.ReturnFromInterruptByPulledE := by
  intro s n
  by_cases e : ((s.readByte s.regs.s).1).getLsbD 7 = true
  · have n_eq : n = 12 := if_pos e
    clear_value n
    subst n_eq
    have effect := exec_rti_effect (returnFromException_full s e)
    generalize pullSeq .s s 12 = r at effect ⊢
    exact effect
  · have n_eq : n = 3 := if_neg e
    clear_value n
    subst n_eq
    have effect := exec_rti_effect (returnFromException_short s (Bool.eq_false_iff.mpr e))
    generalize pullSeq .s s 3 = r at effect ⊢
    exact effect

theorem byteAt_pullSeq_zero (k : Stack) (s : State) (n : Nat) :
    byteAt (pullSeq k s (n + 1)).1 0 = (s.readByte (s.sp k)).1 := rfl

/-- The frame of a whole register set with E set, from the last byte pushed to the first. -/
theorem reverse_frameBytes (s : State) :
    (frameBytes s true 0xFF).reverse =
      [s.regs.cc ||| 0x80, s.regs.a, s.regs.b, s.regs.dp, hiByte s.regs.x, loByte s.regs.x, hiByte s.regs.y,
        loByte s.regs.y, hiByte s.regs.u, loByte s.regs.u, hiByte s.regs.pc, loByte s.regs.pc] := rfl

/-- Settles O48. -/
theorem exceptionThenReturnRestores : Obligations.ExceptionThenReturnRestores := by
  intro e he s t u wf plain run back
  obtain ⟨entry, taken, setsE, all, low, high, _, _⟩ := softwareEntry_of_mem he
  have pushed := takeException_eq s entry low high
  have length : (frameBytes s true 0xFF).length = 12 := frameBytes_length s true 0xFF
  have reversed := reverse_frameBytes s
  rw [setsE, all] at pushed
  rw [taken, Host.Outcome.next.injEq] at run
  rw [run] at pushed
  generalize frameBytes s true 0xFF = image at pushed length reversed
  have pointer : t.regs.s = (pushAll .s s image).regs.s := by rw [pushed]
  have lowered : (pushAll .s s image).regs.s = s.regs.s - 12 := by
    rw [pushAll_regs, length]
    rfl
  have bytes := pullSeq_pushAll .s s t image wf (by rw [length]; exact plain) (systemKept_of_eq pushed) (by rw [pushed])
    pointer
  rw [length, reversed] at bytes
  have first : (t.readByte t.regs.s).1 = s.regs.cc ||| 0x80 := by
    have first := byteAt_pullSeq_zero .s t 11
    rw [bytes] at first
    exact first.symm
  have eSet : ((t.readByte t.regs.s).1).getLsbD 7 = true := by
    rw [first, BitVec.getLsbD_or]
    exact Bool.or_true _
  obtain ⟨u', run', regs, _⟩ := exec_rti_effect (returnFromException_full t eSet)
  rw [back, Host.Outcome.next.injEq] at run'
  rw [run', regs, bytes, pointer, lowered]
  simp [byteAt, wordAt]

/-- Stacking with a new CC, then the wait. -/
theorem wait_effect (s : State) (cc : Byte) (l : List Byte) :
    let t := ((pushAll .s s l).setCC cc).setHalt .cwaiWait
    t.regs = { s.regs with cc := cc, s := s.regs.s - BitVec.ofNat 16 l.length } ∧
      RamKept s t (pushTargets .s s l) ∧ t.ram = (pushAll .s s l).ram ∧ t.halt = .cwaiWait ∧
      SystemKept { pushAll .s s l with halt := .cwaiWait } t ∧ t.cyc = s.cyc := by
  refine ⟨?_, pushAll_ramKept .s s l, rfl, rfl, rfl, (pushAll_kept .s s l).1⟩
  show ({ (pushAll .s s l).regs with cc := cc } : Regs) = _
  rw [pushAll_regs]
  rfl

/-- Settles O49. -/
theorem waitForInterruptStacksFirst : Obligations.WaitForInterruptStacksFirst := by
  intro m s cc bytes
  have run : exec (.cwai m) s = .next (((pushAll .s s bytes).setCC cc).setHalt .cwaiWait) := by
    rw [← pushAll_setCC]
    show Host.Outcome.next (((s.setCC cc).pushRegs .s 0xFF).setHalt .cwaiWait) = _
    rw [pushRegs_eq]
    rfl
  have length : bytes.length = 12 := stackImage_length .s 0xFF _
  have effect := wait_effect s cc bytes
  rw [length] at effect
  exact ⟨_, run, effect⟩

end Sys2Proof.Proofs.Stacks
end

section
/-! PROOF. O50 to O52: the interrupt check (60 R604 to R616). A service is an exception entry, or outside CWAI none of its
stacking; which line is served is the walk of `checkLines` along NMI, FIRQ, IRQ and RESET. -/

namespace Sys2Proof.Proofs.Interrupts

open Sys2Proof Sys2Proof.Machine Sys2Proof.Safety Sys2Proof.Proofs.Operands Sys2Proof.Proofs.Stacks

/-! One service. -/

section Service

variable (s : State) (e : ExcEntry) (n : Nat)

/-- What a service outside CWAI leaves. -/
theorem service_full_effect (halt : s.halt ≠ .cwaiWait) (low : 0xFFE0 ≤ e.vector.toNat)
    (high : e.vector.toNat < 0xFFFF) :
    let p := pushAll .s s (frameBytes s e.eFlag e.mask)
    let t := s.service e n
    EntryEffect s t e.eFlag e.mask (entryFlags e) (e.vector.toNat - 0x8000) ∧ t.ram = p.ram ∧
      SystemKept { p with halt := .none } t ∧ t.cyc = s.cyc + n := by
  intro p t
  have served : t = _ := service_full s e n halt low high
  have regs : t.regs = (s.takeException e).regs := by rw [served]
  have ram : t.ram = p.ram := by rw [served]
  refine ⟨takeException_entry s t e low high regs ram, ram, ?_, ?_⟩
  · rw [served]
    rfl
  · rw [served]

/-- The flags a service in the CWAI wait writes: the masks, and E not. -/
def skipFlags (e : ExcEntry) : List (Machine.Flag × Bool) :=
  (if e.setF then [(.f, true)] else []) ++ (if e.setI then [(.i, true)] else [])

theorem flagsSet_skip {s t : State} {e : ExcEntry}
    (cc : t.regs.cc = ccPutIf (ccPutIf s.regs.cc .i (if e.setI then some true else none)) .f
      (if e.setF then some true else none)) : FlagsSet s t (skipFlags e) := by
  unfold FlagsSet State.flag skipFlags
  rw [cc]
  cases e.setI <;> cases e.setF <;> refine ⟨?_, fun k hk => ?_⟩ <;>
    simp_all [ccPutIf, ccGet_ccPut_of_ne]

/-- What a service in the CWAI wait leaves. -/
theorem service_skip_effect (halt : s.halt = .cwaiWait) (low : 0xFFE0 ≤ e.vector.toNat)
    (high : e.vector.toNat < 0xFFFF) :
    let t := s.service e n
    t.regs.pc = joinBytes (s.intRom (e.vector.toNat - 0x8000)) (s.intRom (e.vector.toNat - 0x8000 + 1)) ∧
      RegsKept s t [.pc] ∧ FlagsSet s t (skipFlags e) ∧ t.ram = s.ram ∧ SystemKept { s with halt := .none } t ∧
      t.cyc = s.cyc + s.params.intCyclesSkip := by
  intro t
  have served : t = _ := service_skip s e n halt low high
  rw [served]
  refine ⟨rfl, fun q hq => ?_, flagsSet_skip rfl, rfl, rfl, rfl⟩
  cases q <;> first | rfl | exact absurd (List.mem_singleton.mpr rfl) hq

end Service

/-! The walk along the lines: a line with nothing to serve that does not block is passed, with the release of a SYNC wait if
it is pending. -/

/-- The state after pending masked lines have been passed, if there were any. -/
def passed (s : State) (pending : Bool) : State := if pending then s.releaseSync else s

theorem passed_eq (s : State) (b : Bool) :
    passed s b = if s.halt = .syncWait ∧ b = true then { s with halt := .none } else s := by
  unfold passed State.releaseSync
  cases b <;> by_cases h : s.halt = .syncWait <;> simp [h, State.setHalt]

/-- Passing lines ends at most a SYNC wait. -/
theorem passed_cases (s : State) (b : Bool) : passed s b = s ∨ (s.halt = .syncWait ∧ passed s b = s.setHalt .none) := by
  rw [passed_eq]
  split
  · exact .inr ⟨(‹_ ∧ _› : _ ∧ _).1, rfl⟩
  · exact .inl rfl

theorem passed_kept (s : State) (b : Bool) :
    (passed s b).lines = s.lines ∧ (passed s b).regs = s.regs ∧ (passed s b).params = s.params := by
  rcases passed_cases s b with h | ⟨_, h⟩ <;> rw [h] <;> exact ⟨rfl, rfl, rfl⟩

theorem passed_passed (s : State) (b c : Bool) : passed (passed s b) c = passed s (b || c) := by
  simp only [passed_eq]
  cases b <;> cases c <;> by_cases h : s.halt = .syncWait <;> simp [h]

theorem push8_setHalt (k : Stack) (s : State) (h : Halt) (v : Byte) :
    (s.setHalt h).push8 k v = (s.push8 k v).setHalt h := by
  have write : (s.setHalt h).writeByte (s.sp k - 1) v =
      { s.writeByte (s.sp k - 1) v with regs := s.regs, cyc := s.cyc, halt := h } :=
    writeByte_core s s.regs s.cyc h _ v
  have cyc := writeByte_cyc s (s.sp k - 1) v
  have pointer : (s.setHalt h).sp k = s.sp k := sp_of_regs k rfl
  rw [push8_eq, push8_eq, pointer, write, ← cyc]
  rfl

theorem pushAll_setHalt (k : Stack) (s : State) (h : Halt) (l : List Byte) :
    pushAll k (s.setHalt h) l = (pushAll k s l).setHalt h := by
  induction l generalizing s with
  | nil => rfl
  | cons v rest ih =>
    show pushAll k ((s.setHalt h).push8 k v) rest = (pushAll k (s.push8 k v) rest).setHalt h
    rw [push8_setHalt, ih]

/-- A service does not see whether masked lines were passed before. -/
theorem service_passed (s : State) (b : Bool) (e : ExcEntry) (n : Nat) (low : 0xFFE0 ≤ e.vector.toNat)
    (high : e.vector.toNat < 0xFFFF) : (passed s b).service e n = s.service e n := by
  rcases passed_cases s b with h | ⟨sync, h⟩
  · rw [h]
  · have frame : frameBytes (s.setHalt .none) e.eFlag e.mask = frameBytes s e.eFlag e.mask := rfl
    rw [h, service_full (s.setHalt .none) e n (show Halt.none ≠ .cwaiWait by decide) low high,
      service_full s e n (by rw [sync]; decide) low high, takeException_eq _ e low high,
      takeException_eq s e low high, frame, pushAll_setHalt]
    generalize pushAll .s s (frameBytes s e.eFlag e.mask) = p
    rfl

theorem serviceReset_passed (s : State) (b : Bool) : (passed s b).serviceReset = s.serviceReset := by
  rcases passed_cases s b with h | ⟨_, h⟩
  · rw [h]
  · rw [h, serviceReset_eq, serviceReset_eq]
    rfl

theorem firqIdle_pass {s : State} (idle : FirqIdle s) (free : ¬ FirqBlocks s) (rest : List CpuLine) :
    s.checkLines (.firq :: rest) = (passed s s.lines.firq.any).checkLines rest := by
  rw [checkLines_firq]
  unfold FirqIdle FirqBlocks passed at *
  split
  · simp_all
  · rfl

theorem irqIdle_pass {s : State} (idle : IrqIdle s) (free : ¬ IrqBlocks s) (rest : List CpuLine) :
    s.checkLines (.irq :: rest) = (passed s s.lines.irq.any).checkLines rest := by
  rw [checkLines_irq]
  unfold IrqIdle IrqBlocks passed at *
  split
  · simp_all
  · rfl

theorem firqBlocks_check {s : State} (blocks : FirqBlocks s) (rest : List CpuLine) :
    s.checkLines (.firq :: rest) = passed s true := by
  obtain ⟨block, pending, masked⟩ := blocks
  rw [checkLines_firq, if_pos pending, if_pos masked, if_pos block]
  rfl

theorem irqBlocks_check {s : State} (blocks : IrqBlocks s) (rest : List CpuLine) :
    s.checkLines (.irq :: rest) = passed s true := by
  obtain ⟨block, pending, masked⟩ := blocks
  rw [checkLines_irq, if_pos pending, if_pos masked, if_pos block]
  rfl

section Passed

variable {s : State} (b : Bool)

theorem flag_passed (k : Machine.Flag) : (passed s b).flag k = s.flag k := by
  rw [State.flag, (passed_kept s b).2.1]
  rfl

theorem irqIdle_passed (h : IrqIdle s) : IrqIdle (passed s b) := by
  unfold IrqIdle at *
  rwa [flag_passed, (passed_kept s b).1]

theorem irqBlocks_passed : IrqBlocks (passed s b) ↔ IrqBlocks s := by
  unfold IrqBlocks
  rw [flag_passed, (passed_kept s b).1, (passed_kept s b).2.2]

end Passed

/-! The obligations. -/

theorem entryEffect_congr {s t t' : State} {ef : Bool} {mask : Byte} {fl : List (Machine.Flag × Bool)} {off : Nat}
    (regs : t'.regs = t.regs) (ram : t'.ram = t.ram) (h : EntryEffect s t ef mask fl off) :
    EntryEffect s t' ef mask fl off := by
  obtain ⟨pc, pointer, registers, ⟨set, kept⟩, memory⟩ := h
  have flag (k : Machine.Flag) : t'.flag k = t.flag k := flag_of_cc (by rw [regs]) k
  refine ⟨by rw [regs, pc], by rw [regs, pointer], fun q hq => by rw [regs, registers q hq],
    ⟨fun p hp => ?_, fun k hk => ?_⟩, fun p hp => by rw [ram, memory p hp]⟩
  · rw [flag, set p hp]
  · rw [flag, kept k hk]

theorem systemKept_clearNmi {s t : State} (h : SystemKept s t) : SystemKept s.clearNmi t.clearNmi := by
  unfold SystemKept at *
  rw [h]
  rfl

/-- Settles O50. -/
theorem nmiServiceComesFirst : Obligations.NmiServiceComesFirst := by
  intro s waits pending t
  have check : t = (s.service nmiEntry s.params.intCyclesNmi).clearNmi := by
    rw [show t = s.interruptCheck from rfl, interruptCheck_chain s waits, if_pos pending]
    rfl
  rw [check]
  refine ⟨fun halt => ?outside, fun halt => ?waiting⟩
  case outside =>
    obtain ⟨entry, ram, system, cyc⟩ := service_full_effect s nmiEntry s.params.intCyclesNmi halt (by decide) (by decide)
    have entry' := entryEffect_congr (t' := (s.service nmiEntry s.params.intCyclesNmi).clearNmi) (by rfl) (by rfl) entry
    rw [show nmiEntry.eFlag = true from rfl, show nmiEntry.mask = 0xFF from rfl] at ram system
    generalize pushAll .s s (frameBytes s true 0xFF) = p at ram system ⊢
    have system' := systemKept_clearNmi system
    exact ⟨entry', ram, system', cyc⟩
  case waiting =>
    obtain ⟨pc, registers, flags, ram, system, cyc⟩ :=
      service_skip_effect s nmiEntry s.params.intCyclesNmi halt (by decide) (by decide)
    have system' := systemKept_clearNmi system
    exact ⟨pc, registers, flags, ram, system', cyc⟩

/-- Settles O51. -/
theorem firqAndIrqServiceWhenUnmasked : Obligations.FirqAndIrqServiceWhenUnmasked := by
  intro s waits noNmi t
  have check : t = s.checkLines [.firq, .irq, .reset] := by
    rw [show t = s.interruptCheck from rfl, interruptCheck_chain s waits, noNmi]
    rfl
  refine ⟨fun pending unmasked => ?firq, fun idle free pending unmasked => ?irq⟩
  case firq =>
    have served : t = s.service firqEntry s.params.intCyclesFirq := by
      rw [check, checkLines_firq, if_pos pending, unmasked]
      rfl
    rw [served]
    exact ⟨fun halt => service_full_effect s firqEntry _ halt (by decide) (by decide),
      fun halt => service_skip_effect s firqEntry _ halt (by decide) (by decide)⟩
  case irq =>
    have served : t = s.service irqEntry s.params.intCyclesIrq := by
      obtain ⟨lines, _, params⟩ := passed_kept s s.lines.firq.any
      rw [check, firqIdle_pass idle free, checkLines_irq, lines, if_pos pending, flag_passed, unmasked,
        ← service_passed s s.lines.firq.any irqEntry _ (by decide) (by decide), ← params]
      rfl
    rw [served]
    exact ⟨fun halt => service_full_effect s irqEntry _ halt (by decide) (by decide),
      fun halt => service_skip_effect s irqEntry _ halt (by decide) (by decide)⟩

/-- Settles O52. -/
theorem maskedLinesAndReset : Obligations.MaskedLinesAndReset := by
  refine fun s => ⟨fun pending first => ?reset, fun waits noNmi nothing => ?masked⟩
  case reset =>
    rw [← serviceReset_eq]
    cases order : s.params.resetFirst
    · obtain ⟨noNmi, firqIdle, irqIdle, firqFree, irqFree⟩ := first.resolve_left (by rw [order]; decide)
      rw [interruptCheck_chain s (.inl order), noNmi, if_neg (by decide), firqIdle_pass firqIdle firqFree,
        irqIdle_pass (irqIdle_passed _ irqIdle) ((irqBlocks_passed _).not.mpr irqFree), passed_passed, checkLines_reset,
        (passed_kept s _).1, if_pos pending, serviceReset_passed]
    · exact interruptCheck_resetFirst s order pending
  case masked =>
    have walk : s.interruptCheck = passed s (s.lines.firq.any || s.lines.irq.any) := by
      rw [interruptCheck_chain s waits, noNmi, if_neg (by decide)]
      by_cases firqBlocks : FirqBlocks s
      · rw [firqBlocks_check firqBlocks, firqBlocks.2.1, Bool.true_or]
      · obtain ⟨firqIdle, irqIdle, last⟩ := nothing.resolve_left firqBlocks
        rw [firqIdle_pass firqIdle firqBlocks]
        by_cases irqBlocks : IrqBlocks s
        · rw [irqBlocks_check ((irqBlocks_passed _).mpr irqBlocks), passed_passed, irqBlocks.2.1]
        · have noReset := last.resolve_left irqBlocks
          rw [irqIdle_pass (irqIdle_passed _ irqIdle) ((irqBlocks_passed _).not.mpr irqBlocks), (passed_kept s _).1,
            passed_passed, checkLines_reset, (passed_kept s _).1, noReset]
          rfl
    simp only [walk, passed_eq, Bool.or_eq_true]

end Sys2Proof.Proofs.Interrupts
end

section
/-! PROOF. O54 to O58: the logical bus and the physical entry (20_memory.md). Below the I/O window everything is read off
`State.translate`, whose parts are `ramOf` and `romWindow`; in the I/O space off `ioReg`, one lemma per range of addresses. -/

namespace Sys2Proof.Proofs.Bus

open Sys2Proof Sys2Proof.Machine Sys2Proof.Safety

/-! Parts of words. -/

theorem toNat_append_eq {m n : Nat} (x : BitVec m) (y : BitVec n) : (x ++ y).toNat = x.toNat * 2 ^ n + y.toNat := by
  rw [BitVec.toNat_append, Nat.shiftLeft_eq, Nat.mul_comm, ← Nat.two_pow_add_eq_or_of_lt y.isLt]

theorem toNat_field {n : Nat} (x : BitVec n) (start len : Nat) :
    (x.extractLsb' start len).toNat = x.toNat / 2 ^ start % 2 ^ len := by
  rw [BitVec.extractLsb'_toNat, Nat.shiftRight_eq_div_pow]

theorem getLsbD_putBit {n : Nat} (v : BitVec n) (k j : Nat) (b : Bool) (hj : j < n) :
    (putBit v k b).getLsbD j = if j = k then b else v.getLsbD j := by
  unfold putBit
  by_cases h : j = k
  · subst h
    cases b <;> simp [hj]
  · cases b <;> simp [h, hj]

/-! Translation (20 R81 to R83, R86). -/

theorem bankOf_toNat (s : State) (a : Word) : (s.bankOf a).toNat = bankFor s a := by
  have task : s.task.toNat = s.gime.init1.toNat % 2 := by
    rw [State.task, toNat_field]
    simp
  have block : (s.blockOf a).toNat = 8 * (s.gime.init1.toNat % 2) + a.toNat / 0x2000 := by
    have := a.isLt
    rw [State.blockOf, toNat_append_eq, toNat_field, task]
    omega
  have inside := (s.blockOf a).isLt
  unfold State.bankOf bankFor
  rw [← block, List.getD_eq_getElem _ _ (by simpa using inside), Vector.getElem_toList]
  rfl

theorem low_toNat (a : Word) : (a.extractLsb' 0 13).toNat = a.toNat % 0x2000 := by
  rw [toNat_field]
  simp

theorem mmuMaps_eq (s : State) (a : Word) :
    s.mmuMaps a = (s.gime.init0.getLsbD 6 && !(s.gime.init0.getLsbD 3 && decide (0xFE00 ≤ a.toNat))) := by
  rw [show s.mmuMaps a = (s.gime.init0.getLsbD 6 && (decide (a.toNat < 0xFE00) || !s.gime.init0.getLsbD 3)) from rfl]
  by_cases h : 0xFE00 ≤ a.toNat
  · simp [h, Nat.not_lt.mpr h]
  · simp [h, Nat.lt_of_not_le h]

theorem translate_mapped {s : State} {a : Word} (h : s.mmuMaps a = true) :
    s.translate a =
      (s.ramAddr (bankFor s a * 0x2000 + a.toNat % 0x2000),
        if s.isRomBank (s.bankOf a) && !s.allRam then some (bankWindow (s.bankOf a) (a.toNat % 0x2000)) else none) := by
  unfold State.translate
  rw [if_pos h, ← bankOf_toNat, ← low_toNat]

theorem translate_fixed {s : State} {a : Word} (h : s.mmuMaps a = false) :
    s.translate a =
      (s.ramAddr (s.params.fixedBase + a.toNat),
        if !s.allRam && decide (0x8000 ≤ a.toNat) &&
            !(s.params.constVectorsOverrideRom && s.constVectors && decide (0xFE00 ≤ a.toNat)) then
          some a
        else none) := by
  unfold State.translate
  rw [if_neg (by rw [h]; decide)]

/-- The RAM address of a translation. -/
theorem translate_ram (s : State) (a : Word) : (s.translate a).1 = ramOf s a := by
  show _ = if s.mmuMaps a = true then _ else _
  cases h : s.mmuMaps a
  · rw [translate_fixed h]
    exact (if_neg Bool.false_ne_true).symm
  · rw [translate_mapped h]
    exact (if_pos rfl).symm

theorem bankBlock_le (bn : BitVec 6) : bankBlock bn ≤ 3 := by
  unfold bankBlock
  have := bn.isLt
  have := (Config.otherRomBank bn).isLt
  split <;> omega

theorem bankWindow_toNat (bn : BitVec 6) (low : Nat) (h : low < 0x2000) :
    (bankWindow bn low).toNat = 0x8000 + bankBlock bn * 0x2000 + low := by
  have := bankBlock_le bn
  rw [bankWindow, BitVec.toNat_ofNat]
  omega

/-- The ROM window address of a translation. -/
theorem translate_rom (s : State) (a : Word) : (s.translate a).2.map BitVec.toNat = romWindow s a := by
  have bank : BitVec.ofNat 6 (bankFor s a) = s.bankOf a := by rw [← bankOf_toNat, BitVec.ofNat_toNat, BitVec.setWidth_eq]
  have window := bankWindow_toNat (s.bankOf a) _ (Nat.mod_lt a.toNat (show 0 < 0x2000 by decide))
  rw [bankBlock, bankOf_toNat] at window
  unfold romWindow
  dsimp only
  rw [← mmuMaps_eq, bank]
  show _ = if s.allRam = true then none else _
  cases allRam : s.allRam
  · rw [if_neg (by decide)]
    cases maps : s.mmuMaps a
    · rw [translate_fixed maps, allRam]
      simp [State.constVectors, apply_ite, and_assoc]
    · rw [translate_mapped maps, allRam]
      by_cases rom : s.bankOf a ∈ s.params.romBanks
      · simp [State.isRomBank, rom, window]
      · simp [State.isRomBank, rom]
  · rw [if_pos rfl]
    cases maps : s.mmuMaps a
    · rw [translate_fixed maps, allRam]
      rfl
    · rw [translate_mapped maps, allRam, Bool.not_true, Bool.and_false]
      rfl

/-! ROM and RAM accesses below the I/O window. -/

theorem romRead_eq (s : State) (l : Word) : s.romRead l = romByte s l.toNat := by
  have internal : s.gime.init0.toNat % 4 = 2 ↔ s.gime.init0.getLsbD 1 = true ∧ s.gime.init0.getLsbD 0 = false := by
    generalize s.gime.init0 = b
    revert b; decide +kernel
  have external : s.gime.init0.toNat % 4 = 3 ↔ s.gime.init0.getLsbD 1 = true ∧ s.gime.init0.getLsbD 0 = true := by
    generalize s.gime.init0 = b
    revert b; decide +kernel
  unfold romByte State.romRead State.romMode
  simp only [internal, external]
  cases s.gime.init0.getLsbD 1 <;> cases s.gime.init0.getLsbD 0 <;> simp [State.intRom, State.extRom]

/-- Settles O54. -/
theorem logicalReadsAndTranslation : Obligations.LogicalReadsAndTranslation := by
  refine fun s a => ⟨readByte_vector s a, fun h => ?_⟩
  rw [State.readByte, if_neg (by omega), if_neg (by omega), ← translate_rom, ← translate_ram]
  cases (s.translate a).2 with
  | none => rfl
  | some l => exact congrArg (·, s) (romRead_eq s l)

/-- Settles O55. -/
theorem logicalWritesBelowAndAboveIo : Obligations.LogicalWritesBelowAndAboveIo := by
  refine fun s a v => ⟨writeByte_vector s a v, fun below hidden discard => ?discarded, fun below stores => ?stored⟩
  case discarded =>
    have rom : (s.translate a).2.isNone = false := by
      rw [← translate_rom, Option.isSome_map] at hidden
      rw [← Option.not_isSome, hidden]
      rfl
    have noStore : s.storeAddr a = none := by
      rw [State.storeAddr, if_neg (by omega), rom, discard]
      rfl
    refine ⟨noStore, ?_⟩
    rw [State.writeByte, if_neg (by omega), if_neg (by omega), noStore]
  case stored =>
    have store : s.storeAddr a = some (ramOf s a) := by
      rw [State.storeAddr, if_neg (by omega), translate_ram, if_pos]
      rcases stores with unhidden | toRam
      · rw [← translate_rom, Option.map_eq_none_iff] at unhidden
        rw [unhidden]
        rfl
      · rw [toRam]
        simp
    exact ⟨store, writeByte_plain s a v below,
      fun p hp => ramRead_writeByte_of_ne s a v p (by rw [store]; simpa [eq_comm] using hp),
      fun wf => ⟨ramRead_writeByte_self s a v _ store wf, wf_writeByte s a v wf⟩⟩

/-- Settles O56. -/
theorem physicalEntryReadsBack : Obligations.PhysicalEntryReadsBack := by
  refine fun s p q v wf => ⟨?_, wf_physWrite s p v wf, rfl⟩
  show ramRead (ramWrite s.ram (s.ramAddr p) v) (s.ramAddr q) = if s.ramAddr q = s.ramAddr p then v else _
  split
  · next same => rw [same, ramRead_ramWrite_self _ _ _ wf]
  · next apart => exact ramRead_ramWrite_of_ne _ _ _ _ apart

end Sys2Proof.Proofs.Bus
end

section
/-! PROOF. O57 and O58: the registers of the I/O space (20 R90, R96 to R109, R118). Which register an address reaches is one
lemma per range of addresses; a read or a write then is the arm of that register. -/

namespace Sys2Proof.Proofs.IoSpace

open Sys2Proof Sys2Proof.Machine Sys2Proof.Safety Sys2Proof.Proofs.Bus

/-! The register at an address. -/

section Registers

variable (q : Params) {a : Word}

theorem ioReg_pia0 (h : a.toNat ≤ 0xFF1F) : ioReg q a = .pia0 (a.extractLsb' 0 2) := by
  unfold ioReg
  rw [if_pos (by omega)]

theorem ioReg_window (h : (0xFF20 ≤ a.toNat ∧ a.toNat ≤ 0xFF8F) ∨ a.toNat = 0xFF96 ∨ a.toNat = 0xFF97) :
    ioReg q a = windowReg q a.toNat := by
  unfold ioReg
  dsimp only
  rw [if_neg (by omega)]
  split
  · rfl
  · rw [if_neg (by omega), if_neg (by omega), if_neg (by omega), if_neg (by omega), if_neg (by omega), if_neg (by omega),
      if_pos (by omega)]

theorem ioReg_video (low : 0xFF98 ≤ a.toNat) (high : a.toNat ≤ 0xFF9F) : ioReg q a = .video (a.extractLsb' 0 3) := by
  unfold ioReg
  dsimp only
  iterate 9 rw [if_neg (by omega)]
  rw [if_pos (by omega)]

theorem ioReg_bank (low : 0xFFA0 ≤ a.toNat) (high : a.toNat ≤ 0xFFAF) : ioReg q a = .bank (a.extractLsb' 0 4) := by
  unfold ioReg
  dsimp only
  iterate 10 rw [if_neg (by omega)]
  rw [if_pos (by omega)]

theorem ioReg_palette (low : 0xFFB0 ≤ a.toNat) (high : a.toNat ≤ 0xFFBF) : ioReg q a = .palette (a.extractLsb' 0 4) := by
  unfold ioReg
  dsimp only
  iterate 11 rw [if_neg (by omega)]
  rw [if_pos (by omega)]

theorem ioReg_sam (low : 0xFFC0 ≤ a.toNat) : ioReg q a = .sam (a.extractLsb' 1 4) (a.getLsbD 0) := by
  unfold ioReg
  dsimp only
  iterate 12 rw [if_neg (by omega)]

end Registers

theorem eq_of_toNat {a : Word} {n : Nat} (h : a.toNat = n) : a = BitVec.ofNat 16 n := by
  rw [← h, BitVec.ofNat_toNat, BitVec.setWidth_eq]

theorem readByte_io {s : State} {a : Word} (low : 0xFF00 ≤ a.toNat) (high : a.toNat ≤ 0xFFDF) :
    s.readByte a = s.ioRead a := by
  rw [State.readByte, if_neg (by omega), if_pos low]

theorem writeByte_io {s : State} {a : Word} (v : Byte) (low : 0xFF00 ≤ a.toNat) (high : a.toNat ≤ 0xFFDF) :
    s.writeByte a v = s.ioWrite a v := by
  rw [State.writeByte, if_neg (by omega), if_pos low]

theorem forwarded_iff (s : State) (a : Word) : forwarded s.params a.toNat = true ↔ Forwarded s a := by
  simp [forwarded, Forwarded, and_assoc]

theorem sel_toNat (a : Word) : (a.extractLsb' 0 2).toNat = a.toNat % 4 := by
  rw [toNat_field]
  simp

/-! Reads. -/

section Reads

variable {s : State} {a : Word}

theorem ioRead_pia0 (h : a.toNat ≤ 0xFF1F) :
    s.ioRead a =
      if a.toNat % 4 = 2 then s.ackVsync.drawByte else if a.toNat % 4 = 3 then (s.crbByte, s) else s.drawByte := by
  unfold State.ioRead
  rw [ioReg_pia0 s.params h]
  dsimp only
  rw [sel_toNat]
  split
  · next two => rw [if_pos two]
  · next three => rw [if_neg (by omega), if_pos three]
  · next not2 not3 => rw [if_neg not2, if_neg not3]

theorem ioRead_window (h : (0xFF20 ≤ a.toNat ∧ a.toNat ≤ 0xFF8F) ∨ a.toNat = 0xFF96 ∨ a.toNat = 0xFF97) :
    s.ioRead a = if forwarded s.params a.toNat then s.drawByte else (0xFF, s) := by
  unfold State.ioRead
  rw [ioReg_window s.params h, windowReg]
  cases forwarded s.params a.toNat <;> rfl

/-- A register with nothing to answer draws a free byte. -/
theorem ioRead_unreadable (high : a.toNat ≤ 0xFFDF)
    (h : a.toNat = 0xFF90 ∨ a.toNat = 0xFF91 ∨ a.toNat = 0xFF94 ∨ a.toNat = 0xFF95 ∨
      (0xFF98 ≤ a.toNat ∧ a.toNat ≤ 0xFF9F) ∨ 0xFFB0 ≤ a.toNat) : s.ioRead a = s.drawByte := by
  rcases h with h | h | h | h | ⟨low, top⟩ | low
  · rw [eq_of_toNat h]; rfl
  · rw [eq_of_toNat h]; rfl
  · rw [eq_of_toNat h]; rfl
  · rw [eq_of_toNat h]; rfl
  · rw [State.ioRead, ioReg_video s.params low top]
  · by_cases palette : a.toNat ≤ 0xFFBF
    · rw [State.ioRead, ioReg_palette s.params low palette]
    · rw [State.ioRead, ioReg_sam s.params (by omega)]

theorem ioRead_bank (low : 0xFFA0 ≤ a.toNat) (high : a.toNat ≤ 0xFFAF) :
    (s.ioRead a).1.toNat = 64 * (Config.freePair s.draws).toNat + (s.gime.bank.toList.getD (a.toNat - 0xFFA0) 0).toNat ∧
      (s.ioRead a).2 = s.countDraw := by
  have index : (a.extractLsb' 0 4).toNat = a.toNat - 0xFFA0 := by
    rw [toNat_field]
    omega
  have inside : a.toNat - 0xFFA0 < 16 := by omega
  rw [State.ioRead, ioReg_bank s.params low high]
  refine ⟨?_, rfl⟩
  rw [toNat_append_eq, Nat.mul_comm, List.getD_eq_getElem _ _ (by simpa using inside), Vector.getElem_toList]
  simp only [← index]
  rfl

end Reads

/-- The CRB byte: the flag, a 0, and the six stored bits (10 R54). -/
theorem crbByte_bits (s : State) :
    s.crbByte.getLsbD 7 = s.pia.vsyncFlag ∧ s.crbByte.getLsbD 6 = false ∧
      ∀ i, i < 6 → s.crbByte.getLsbD i = s.pia.crb.getLsbD i := by
  have bits : ∀ (f : Bool) (c : BitVec 6), let b : Byte := BitVec.ofBool f ++ 0#1 ++ c
      b.getLsbD 7 = f ∧ b.getLsbD 6 = false ∧ ∀ i, i < 6 → b.getLsbD i = c.getLsbD i := by decide +kernel
  exact bits s.pia.vsyncFlag s.pia.crb

/-- Settles O57. -/
theorem acknowledgingReads : Obligations.AcknowledgingReads := by
  intro s a low high n r drawn
  have io : r = s.ioRead a := readByte_io low high
  rw [io]
  refine ⟨fun pia sel => ?data, fun pia sel => ?dataB, fun pia sel => ?crb,
    fun window => ⟨fun f => ?present, fun f => ?absent⟩, fun h => ?irq, fun h => ?firq, fun bank => ioRead_bank bank.1 bank.2, ioRead_unreadable high⟩
  case data => rw [ioRead_pia0 pia, if_neg (by omega), if_neg (by omega)]; rfl
  case dataB => rw [ioRead_pia0 pia, if_pos sel]; rfl
  case crb =>
    rw [ioRead_pia0 pia, if_neg (by omega), if_pos sel]
    exact ⟨rfl, crbByte_bits s⟩
  case present => rw [ioRead_window window, if_pos ((forwarded_iff s a).mpr f)]; rfl
  case absent => rw [ioRead_window window, if_neg ((forwarded_iff s a).not.mpr f)]
  case irq => rw [eq_of_toNat h]; rfl
  case firq => rw [eq_of_toNat h]; rfl

/-! Writes. -/

/-- A field of a register write reads back, and no other element of the vector changes. -/
theorem getElem_set_fin {α : Type} {n : Nat} (v : Vector α n) (i : Nat) (hi : i < n) (x : α) (j : Fin n) :
    (v.set i x)[j] = if j.val = i then x else v[j] := by
  rw [Fin.getElem_fin, Fin.getElem_fin, Vector.getElem_set]
  simp only [eq_comm]

theorem writeByte_bank (s : State) (v : Byte) (i : BitVec 4) :
    s.writeByte (0xFFA0 + i.setWidth 16) v =
      { s with gime := { s.gime with bank := s.gime.bank.set i.toNat (v.extractLsb' 0 6) } } := by
  have addr : ∀ i : BitVec 4, let a : Word := 0xFFA0 + i.setWidth 16
      0xFFA0 ≤ a.toNat ∧ a.toNat ≤ 0xFFAF ∧ a.extractLsb' 0 4 = i := by decide
  obtain ⟨low, high, index⟩ := addr i
  rw [writeByte_io v (by omega) (by omega), State.ioWrite, ioReg_bank s.params low high, index]

theorem writeByte_video (s : State) (v : Byte) (i : BitVec 3) :
    s.writeByte (0xFF98 + i.setWidth 16) v =
      { s with gime := { s.gime with video := s.gime.video.set i.toNat v } } := by
  have addr : ∀ i : BitVec 3, let a : Word := 0xFF98 + i.setWidth 16
      0xFF98 ≤ a.toNat ∧ a.toNat ≤ 0xFF9F ∧ a.extractLsb' 0 3 = i := by decide
  obtain ⟨low, high, index⟩ := addr i
  rw [writeByte_io v (by omega) (by omega), State.ioWrite, ioReg_video s.params low high, index]

theorem writeByte_palette (s : State) (v : Byte) (i : BitVec 4) :
    s.writeByte (0xFFB0 + i.setWidth 16) v =
      { s with gime := { s.gime with palette := s.gime.palette.set i.toNat v } } := by
  have addr : ∀ i : BitVec 4, let a : Word := 0xFFB0 + i.setWidth 16
      0xFFB0 ≤ a.toNat ∧ a.toNat ≤ 0xFFBF ∧ a.extractLsb' 0 4 = i := by decide
  obtain ⟨low, high, index⟩ := addr i
  rw [writeByte_io v (by omega) (by omega), State.ioWrite, ioReg_palette s.params low high, index]

theorem writeByte_sam (s : State) (v : Byte) (k : BitVec 4) (b : Bool) :
    s.writeByte (0xFFC0 + 2 * k.setWidth 16 + (BitVec.ofBool b).setWidth 16) v =
      { s with sam := putBit s.sam k.toNat b } := by
  have addr : ∀ (k : BitVec 4) (b : Bool), let a : Word := 0xFFC0 + 2 * k.setWidth 16 + (BitVec.ofBool b).setWidth 16
      0xFFC0 ≤ a.toNat ∧ a.toNat ≤ 0xFFDF ∧ a.extractLsb' 1 4 = k ∧ a.getLsbD 0 = b := by decide
  obtain ⟨low, high, field, set⟩ := addr k b
  rw [writeByte_io v (by omega) high, State.ioWrite, ioReg_sam s.params low, field, set]

theorem writeByte_pia0 (s : State) {a : Word} (v : Byte) (low : 0xFF00 ≤ a.toNat) (high : a.toNat ≤ 0xFF1F) :
    s.writeByte a v =
      if a.toNat % 4 = 0 then { s with pia := { s.pia with dataA := v } }
      else if a.toNat % 4 = 1 then { s with pia := { s.pia with ctrlA := v } }
      else if a.toNat % 4 = 2 then { s with pia := { s.pia with dataB := v } }
      else s.setCrb v := by
  rw [writeByte_io v low (by omega), State.ioWrite, ioReg_pia0 s.params high]
  dsimp only
  rw [sel_toNat]
  split
  · next zero => rw [if_pos zero]
  · next one => rw [if_neg (by omega), if_pos one]
  · next two => rw [if_neg (by omega), if_neg (by omega), if_pos two]
  · next not0 not1 not2 => rw [if_neg not0, if_neg not1, if_neg not2]

theorem writeByte_window (s : State) {a : Word} (v : Byte)
    (h : (0xFF20 ≤ a.toNat ∧ a.toNat ≤ 0xFF8F) ∨ a.toNat = 0xFF96 ∨ a.toNat = 0xFF97) : s.writeByte a v = s := by
  rw [writeByte_io v (by omega) (by omega), State.ioWrite, ioReg_window s.params h, windowReg]
  cases forwarded s.params a.toNat <;> rfl

/-- The timer value with a new high nibble, and with a new low byte (20 R104). -/
theorem timerHi_toNat (v : Byte) (t : BitVec 12) :
    (v.extractLsb' 0 4 ++ t.extractLsb' 0 8 : BitVec 12).toNat = v.toNat % 16 * 256 + t.toNat % 256 := by
  rw [toNat_append_eq, toNat_field, toNat_field]
  simp

theorem timerLo_toNat (v : Byte) (t : BitVec 12) :
    (t.extractLsb' 8 4 ++ v : BitVec 12).toNat = t.toNat / 256 * 256 + v.toNat := by
  have := t.isLt
  rw [toNat_append_eq, toNat_field]
  omega

/-- Settles O58. -/
theorem controlRegisterWrites : Obligations.ControlRegisterWrites := by
  intro s v
  refine ⟨fun i => ?bank, fun k b => ?sam, ?timerHi, ?timerLo, rfl, rfl, rfl, rfl, fun i => ?video, fun i => ?palette,
    fun a low high => ?pia, fun a h => ?window⟩
  case bank => exact ⟨_, writeByte_bank s v i, getElem_set_fin _ _ i.isLt _, rfl⟩
  case sam => exact ⟨_, writeByte_sam s v k b, fun j hj => getLsbD_putBit _ _ j b hj, rfl⟩
  case timerHi => exact ⟨s.setTimer (v.extractLsb' 0 4 ++ s.gime.timerValue.extractLsb' 0 8), rfl, timerHi_toNat v _, rfl⟩
  case timerLo => exact ⟨s.setTimer (s.gime.timerValue.extractLsb' 8 4 ++ v), rfl, timerLo_toNat v _, rfl⟩
  case video => exact ⟨_, writeByte_video s v i, getElem_set_fin _ _ i.isLt _, rfl⟩
  case palette => exact ⟨_, writeByte_palette s v i, getElem_set_fin _ _ i.isLt _, rfl⟩
  case pia =>
    rw [writeByte_pia0 s v low high, State.setCrb, Bool.and_comm]
  case window =>
    exact writeByte_window s v (h.imp id (Or.imp (congrArg BitVec.toNat) (congrArg BitVec.toNat)))

end Sys2Proof.Proofs.IoSpace
end

section
/-! PROOF. O59 and O60: GIME events, the timer, the VSYNC check and the inputs of a master tick (60 R630 to R676). -/

namespace Sys2Proof.Proofs.Events

open Sys2Proof Sys2Proof.Machine Sys2Proof.Safety Sys2Proof.Proofs.Bus

/-! GIME events. -/

/-- Bit `j` of a latch after an event that the line takes or loses. -/
theorem latch_bit (latch : Byte) (k : GimeEv) (on : Bool) (j : Nat) (hj : j < 8) :
    (if on then putBit latch (gimeBit k) true else latch).getLsbD j =
      (latch.getLsbD j || (decide (j = gimeBit k) && on)) := by
  cases on
  · simp
  · rw [if_pos rfl, getLsbD_putBit _ _ _ _ hj]
    by_cases h : j = gimeBit k <;> simp [h]

/-- An event, by the halves that are enabled. -/
theorem gimeEvent_halves (s : State) (k : GimeEv) :
    s.gimeEvent k =
      { s with
        gime :=
          { s.gime with
            irqFlags := if s.irqEnabled k then putBit s.gime.irqFlags (gimeBit k) true else s.gime.irqFlags
            firqFlags := if s.firqEnabled k then putBit s.gime.firqFlags (gimeBit k) true else s.gime.firqFlags }
        lines :=
          { s.lines with
            irq := if s.irqEnabled k then s.lines.irq.raise k else s.lines.irq
            firq := if s.firqEnabled k then s.lines.firq.raise k else s.lines.firq } } := by
  unfold State.gimeEvent
  cases s.irqEnabled k <;> cases s.firqEnabled k <;> rfl

/-- Settles O59. -/
theorem gimeEventsLatchWhenEnabled : Obligations.GimeEventsLatchWhenEnabled := by
  intro s k t irqOn firqOn
  have irq : s.irqEnabled k = irqOn := by
    rw [State.irqEnabled, Bool.or_comm]
    rfl
  have firq : s.firqEnabled k = firqOn := by
    rw [State.firqEnabled, Bool.or_comm]
    rfl
  have event : t = _ := gimeEvent_halves s k
  rw [irq, firq] at event
  rw [event]
  exact ⟨latch_bit _ k irqOn, latch_bit _ k firqOn, rfl, rfl, rfl⟩

/-! The timer (60 R641 to R643). -/

theorem timerDecrement_stopped {s : State} (zero : s.gime.timerValue = 0) (stops : s.params.timerZeroStops = true) :
    s.timerDecrement = s := by
  rw [State.timerDecrement, stops, zero]
  rfl

theorem timerDecrement_running {s : State} (runs : s.gime.timerValue ≠ 0 ∨ s.params.timerZeroStops = false) :
    s.timerDecrement =
      if s.gime.timerCount ≤ 1 then s.timerExpire else s.setTimerCount (s.gime.timerCount - 1) := by
  have goes : ¬ (s.params.timerZeroStops && s.gime.timerValue == 0) = true := by
    rw [Bool.and_eq_true, beq_iff_eq]
    rintro ⟨stops, zero⟩
    rcases runs with runs | runs
    · exact runs zero
    · rw [stops] at runs
      cases runs
  rw [State.timerDecrement, if_neg goes]
  by_cases last : s.gime.timerCount ≤ 1
  · rw [if_pos last, if_pos (by omega)]
  · rw [if_neg last, if_neg (by omega)]

/-! A master tick before the CPU (60 R630). -/

/-- The state after the events of a line wrap, where the line wraps. -/
def afterLineWrap (s : State) : State :=
  if s.seq.dot + 1 = Config.dotsPerLine then s.advanceCounters.lineWrapEvents else s.advanceCounters

theorem gimeEvent_init1 (s : State) (k : GimeEv) : (s.gimeEvent k).gime.init1 = s.gime.init1 := by
  rw [gimeEvent_halves]

theorem gimeEvent_seq (s : State) (k : GimeEv) : (s.gimeEvent k).seq = s.seq := by
  rw [gimeEvent_halves]

theorem timerDecrement_seq (s : State) : s.timerDecrement.seq = s.seq := by
  rw [timerDecrement_eq]

theorem timerDecrement_init1 (s : State) : s.timerDecrement.gime.init1 = s.gime.init1 := by
  unfold State.timerDecrement
  split
  · rfl
  · split
    · exact gimeEvent_init1 _ _
    · rfl

/-- The slow timer's part of a line wrap, in the state after the counters advanced. -/
def afterSlowTimer (s : State) : State :=
  if s.gime.init1.getLsbD 5 then s.advanceCounters else s.advanceCounters.timerDecrement

theorem afterSlowTimer_seq (s : State) : (afterSlowTimer s).seq = nextCounters s.seq := by
  unfold afterSlowTimer
  split
  · rfl
  · exact timerDecrement_seq _

theorem afterSlowTimer_init1 (s : State) : (afterSlowTimer s).gime.init1 = s.gime.init1 := by
  unfold afterSlowTimer
  split
  · rfl
  · exact timerDecrement_init1 _

theorem afterLineWrap_of_wrap {s : State} (h : s.seq.dot = 1819) :
    afterLineWrap s =
      if (nextCounters s.seq).scanline = 13 then (afterSlowTimer s).gimeEvent .vbord else afterSlowTimer s := by
  rw [afterLineWrap, if_pos (show s.seq.dot + 1 = Config.dotsPerLine by rw [h]; rfl), lineWrapEvents_def, ← afterSlowTimer_seq]
  rfl

theorem afterLineWrap_of_inside {s : State} (h : s.seq.dot ≠ 1819) : afterLineWrap s = s.advanceCounters := by
  rw [afterLineWrap, if_neg]
  exact fun wrap => h (Nat.succ.inj wrap)

theorem afterLineWrap_kept (s : State) :
    (afterLineWrap s).seq = nextCounters s.seq ∧ (afterLineWrap s).gime.init1 = s.gime.init1 := by
  by_cases h : s.seq.dot = 1819
  · rw [afterLineWrap_of_wrap h]
    split
    · exact ⟨(gimeEvent_seq _ _).trans (afterSlowTimer_seq s), (gimeEvent_init1 _ _).trans (afterSlowTimer_init1 s)⟩
    · exact ⟨afterSlowTimer_seq s, afterSlowTimer_init1 s⟩
  · rw [afterLineWrap_of_inside h]
    exact ⟨rfl, rfl⟩

/-- The VSYNC check, by the position. -/
theorem piaVsyncTick_at (s : State) :
    s.piaVsyncTick =
      if s.seq.dot = Config.vsyncDot.val ∧ s.seq.scanline = Config.vsyncLine.val then s.piaVsyncEvent else s := by
  rw [piaVsyncTick_eq]
  simp only [State.vsyncDue, Bool.and_eq_true, decide_eq_true_iff]

theorem fastTimerTick_at (s : State) :
    s.fastTimerTick = if s.gime.init1.getLsbD 5 = true ∧ s.seq.masterCycle % 8 = 0 then s.timerDecrement else s := by
  simp only [State.fastTimerTick, Bool.and_eq_true, beq_iff_eq]
  rfl

theorem sequence_chain (s : State) : s.sequence = (afterLineWrap s).piaVsyncTick.fastTimerTick.pollPeripherals := rfl

/-- Settles O60. -/
theorem timerAndVsyncEvents : Obligations.TimerAndVsyncEvents := by
  refine fun s => ⟨timerDecrement_stopped, fun runs more => ?count, fun runs last => ?expire, ?tick, rfl,
    fun b k a p x => ⟨rfl, rfl, rfl, rfl, rfl, rfl, rfl, rfl, rfl, rfl, rfl⟩⟩
  case count =>
    rw [timerDecrement_running runs, if_neg (by omega)]
    rfl
  case expire =>
    rw [timerDecrement_running runs, if_pos last]
    rfl
  case tick =>
    obtain ⟨counters, init1⟩ := afterLineWrap_kept s
    have vsync := piaVsyncTick_at (afterLineWrap s)
    have fast := fastTimerTick_at (afterLineWrap s).piaVsyncTick
    rw [counters] at vsync
    rw [show (afterLineWrap s).piaVsyncTick.gime.init1 = s.gime.init1 from init1,
      show (afterLineWrap s).piaVsyncTick.seq = nextCounters s.seq from counters] at fast
    exact ⟨s.advanceCounters, afterLineWrap s, _, _, rfl, afterLineWrap_of_inside,
      fun wrap => ⟨afterSlowTimer s, rfl, afterLineWrap_of_wrap wrap⟩, vsync, fast, sequence_chain s⟩

end Sys2Proof.Proofs.Events
end
